-- ==== Sys2Proof/Word.lean ====
section
/-! DEFINITION. The plain words of the part: bytes, site times and the small index types. -/

namespace Sys2Proof

/-- A byte of the SPI link and of the calibration image. -/
abbrev Byte := BitVec 8

/-- Site time: a 32-bit count of tu that wraps (00_scope.md, "Site time"; R210). -/
abbrev Time := BitVec 32

/-- Strip index 0 to 15: lane × 4 + position number (00_scope.md, "Lanes, rows and strips"). -/
abbrev Strip := Fin 16

/-- Lane number 0 to 3. -/
abbrev Lane := Fin 4

/-- Probe number P0 to P3. -/
abbrev Probe := Fin 4

/-- Boundary b between lane b and lane b + 1. -/
abbrev Boundary := Fin 3

/-- A set of axle flags or reason codes, one bit per code (the 32-bit code set of R130). -/
abbrev CodeSet := BitVec 32

end Sys2Proof
end

