-- ==== Sys2Proof/Config.lean ====
section
/-! DEFINITION. The fixed numbers of the part, each with the rule that states it. The spec calls no result undefined, so no
constant here is a free value. -/

namespace Sys2Proof.Config

/-- Samples that an idle strip waits for after a pulse (R3). -/
abbrev idleWaitFull : Nat := 1600
/-- Capacity of the two sample windows (R3). -/
abbrev windowSize : Nat := 64
/-- The pinned timer's run, 180 s (R5). -/
abbrev pinnedRun : Nat := 2880000
/-- The standing timer's run, 60 s (R11). -/
abbrev standingRun : Nat := 960000
/-- A noise window, 1 s (R15). -/
abbrev noiseRun : Nat := 16000
/-- Sample total at which a pulse is cut (R11). -/
abbrev longTotal : Nat := 4000
/-- Samples in SETTLING (R16). -/
abbrev settlingTotal : Nat := 200
/-- Upper end of the noise window count (R15). -/
abbrev noiseCountMax : Nat := 8000
/-- Ends of the physical temperature range (R23). -/
abbrev tempMin : Int := -800
abbrev tempMax : Int := 1600
/-- Minimum times of the converter's work, in ms (section 3.2, R44). -/
abbrev probeMin : Nat := 20
abbrev chargeMin : Nat := 50
abbrev readMin : Nat := 10
/-- Quiet time after a pulse end, 200 ms (R51). -/
abbrev quietTime : Nat := 3200
/-- Site-wide speed limits in mm/s (R71). -/
abbrev vMin : Nat := 556
abbrev vMax : Nat := 69444
/-- Capacity of a side buffer (R60) and of a pairing queue (R72). -/
abbrev bufferSize : Nat := 4
/-- Entries of the record table (R123). -/
abbrev tableSize : Nat := 40
/-- Limit of the held count (R124). -/
abbrev heldMax : Nat := 38
/-- Listed axles of a record at most (R114). -/
abbrev listedMax : Nat := 12
/-- Upper end of the axle count (R114). -/
abbrev axleCountMax : Nat := 31
/-- Rules of a class bank (R149). -/
abbrev bankSize : Nat := 32
/-- Hold time of a new switch position (R185). -/
abbrev switchHold : Nat := 800
/-- Earliest and latest completion of a store after its acceptance (R190). -/
abbrev storeMin : Nat := 480
abbrev storeMax : Nat := 1440
/-- Bytes of a calibration image before its CRC (section 10.2). -/
abbrev imageValues : Nat := 336

end Sys2Proof.Config
end

