-- ==== Sys2Proof/Syntax.lean ====
section
/-! DEFINITION. The commands: one constructor of `Instr` for each row of spec/opcode_table.json, in the table's order. -/

namespace Sys2Proof

/-- The parts of an SPI transaction that are not the command itself: the address byte (R199) and the bytes clocked after the
command CRC-8, whose values the node does not check (R200). -/
structure Xfer where
  addr : Byte
  filler : List Byte
  deriving DecidableEq, Repr

/-- What a store that a device reset cuts off leaves behind (R184): the slot record wholly as it was, with whatever bytes
the spare slot then holds, or the slot record wholly as the store wrote it after reading these bytes back. The second has its
effect only for a store that was due to complete (R190, R192). -/
inductive StoreCut
  | recordAsItWas (spare : List Byte)
  | recordWritten (readBack : List Byte)
  deriving DecidableEq, Repr

/-- The parameters of R207's identifier table. SLOTn_LEN and SLOTn_RULE carry their slot number. -/
inductive Param
  | tOn | tOff | nb | noiseLim | azl | azTol | azStep | enable
  | wLr | straddleEn | spdtol | maxsp | maxclose | grp | rdt
  | probeMap | probeEn | tempHold | hotTo | hotTh | hotMode | coldTo | coldTh | coldMode
  | slotLen (n : Fin 4) | slotRule (n : Fin 4)
  | testLimit | testPeriod | missLim | holdoff | attnMask
  deriving DecidableEq, Repr

/-- The commands of the part. A sample event carries its strip and code; an expiry its strip or lane (and, where a buffer
may hold several waiting items, the place of the item in it); a host command the address byte and filler of its transaction
and its payload; a PARAM_WRITE row the payload after the identifier byte. -/
inductive Instr
  | sample (i : Strip) (code : BitVec 16)
  | normalEnd (i : Strip) (code : BitVec 16)
  | longCut (i : Strip) (code : BitVec 16)
  | standingEnd (i : Strip) (code : BitVec 16)
  | settlingEnd (i : Strip) (code : BitVec 16)
  | autoZeroStep (i : Strip)
  | pinnedTimerExpiry (i : Strip)
  | standingTimerExpiry (i : Strip)
  | noiseWindowEnd (i : Strip)
  | pulseArrival (i : Strip)
  | loneExpiry (i : Strip) (k : Fin 4)
  | entryExpiry (n : Lane) (k : Fin 4)
  | closeDeadlineExpiry (n : Lane)
  | slotBoundary (result : BitVec 16)
  | periodicTimerExpiry (i : Strip)
  | holdTimerExpiry (n : Lane)
  | holdoffExpiry (i : Strip)
  | storeCompletion (readBack : List Byte)
  | switchPositionTaken
  | deviceReset (straps : BitVec 2) (cut : StoreCut)
  | loadCompletion
  | unknownCmd (bytes : List Byte)
  | nop (x : Xfer) (payload : List Byte)
  | nopRepeat (x : Xfer)
  | status (x : Xfer) (payload : List Byte)
  | paramRead (x : Xfer) (payload : List Byte)
  | tOn (x : Xfer) (rest : List Byte)
  | tOff (x : Xfer) (rest : List Byte)
  | nb (x : Xfer) (rest : List Byte)
  | noiseLim (x : Xfer) (rest : List Byte)
  | azl (x : Xfer) (rest : List Byte)
  | azTol (x : Xfer) (rest : List Byte)
  | azStep (x : Xfer) (rest : List Byte)
  | enable (x : Xfer) (rest : List Byte)
  | wLr (x : Xfer) (rest : List Byte)
  | straddleEn (x : Xfer) (rest : List Byte)
  | spdtol (x : Xfer) (rest : List Byte)
  | maxsp (x : Xfer) (rest : List Byte)
  | maxclose (x : Xfer) (rest : List Byte)
  | grp (x : Xfer) (rest : List Byte)
  | rdt (x : Xfer) (rest : List Byte)
  | probeMap (x : Xfer) (rest : List Byte)
  | probeEn (x : Xfer) (rest : List Byte)
  | tempHold (x : Xfer) (rest : List Byte)
  | hotTo (x : Xfer) (rest : List Byte)
  | hotTh (x : Xfer) (rest : List Byte)
  | hotMode (x : Xfer) (rest : List Byte)
  | coldTo (x : Xfer) (rest : List Byte)
  | coldTh (x : Xfer) (rest : List Byte)
  | coldMode (x : Xfer) (rest : List Byte)
  | slotLen (n : Fin 4) (x : Xfer) (rest : List Byte)
  | slotRule (n : Fin 4) (x : Xfer) (rest : List Byte)
  | testLimit (x : Xfer) (rest : List Byte)
  | testPeriod (x : Xfer) (rest : List Byte)
  | missLim (x : Xfer) (rest : List Byte)
  | holdoff (x : Xfer) (rest : List Byte)
  | attnMask (x : Xfer) (rest : List Byte)
  | counterRead (x : Xfer) (payload : List Byte)
  | sync (x : Xfer) (payload : List Byte)
  | syncRead (x : Xfer) (payload : List Byte)
  | trafficReset (x : Xfer) (payload : List Byte)
  | recList (x : Xfer) (payload : List Byte)
  | recHead (x : Xfer) (payload : List Byte)
  | recAxles (x : Xfer) (payload : List Byte)
  | recHold (x : Xfer) (payload : List Byte)
  | recRelease (x : Xfer) (payload : List Byte)
  | recTag (x : Xfer) (payload : List Byte)
  | recClose (x : Xfer) (payload : List Byte)
  | recRetire (x : Xfer) (payload : List Byte)
  | recReclass (x : Xfer) (payload : List Byte)
  | recMerge (x : Xfer) (payload : List Byte)
  | recSplit (x : Xfer) (payload : List Byte)
  | classWrite (x : Xfer) (payload : List Byte)
  | classClear (x : Xfer) (payload : List Byte)
  | classRead (x : Xfer) (payload : List Byte)
  | classSwap (x : Xfer) (payload : List Byte)
  | stripRemove (x : Xfer) (payload : List Byte)
  | stripRestore (x : Xfer) (payload : List Byte)
  | stripTest (x : Xfer) (payload : List Byte)
  | stripStatus (x : Xfer) (payload : List Byte)
  | tempStatus (x : Xfer) (payload : List Byte)
  | calWrite (x : Xfer) (payload : List Byte)
  | calLoad (x : Xfer) (payload : List Byte)
  | calRead (x : Xfer) (payload : List Byte)
  | calCommit (x : Xfer) (payload : List Byte)
  | trimSet (x : Xfer) (payload : List Byte)
  | trimStep (x : Xfer) (payload : List Byte)
  | calswInputChange (closed : Bool)
  deriving DecidableEq, Repr

end Sys2Proof
end

