-- ==== Sys2Proof/Machine/State.lean ====
section
/-! DEFINITION. The state of the part as plain data, one structure per block (00_scope.md, "How the blocks work together"),
and `State.reset`: the part right after the release of device reset, before the start-up load has completed. -/

namespace Sys2Proof.Machine

/-! ### Strip channel unit (chapter 1) -/

/-- A finished pulse as the SCU hands it to the APU (R10). -/
structure PulseRecord where
  strip : Strip
  first : Time
  last : Time
  mid : Time
  area : Nat
  clipped : Bool
  long : Bool
  deriving DecidableEq, Repr

/-- The context of a pulse in progress (R7, R8). `pend` holds the samples of the end run under way, each with max(d, 0) and
its clipped state; the end run is their number. -/
structure PulseCtx where
  first : Time
  last : Time
  area : Nat
  clipped : Bool
  pend : List (Nat × Bool)
  total : Nat
  discard : Bool
  deriving DecidableEq, Repr

/-- The standing state: its end-run count and the time its timer expires (R11 to R13). -/
structure Standing where
  endRun : Nat
  due : Time
  deriving DecidableEq, Repr

/-- The connection state, with the settling count while SETTLING (R16). -/
inductive Conn
  | connected
  | underTest
  | settling (count : Nat)
  deriving DecidableEq, Repr

/-- The latest disturbance interval; it may have no end yet (R16, R17). -/
structure Disturb where
  start : Time
  stop : Option Time
  deriving DecidableEq, Repr

/-- One strip channel unit (section 1.1). A timer is the site time of its expiry, none while it is stopped. -/
structure Scu where
  base : Int
  pulse : Option PulseCtx
  standing : Option Standing
  idleWait : Nat
  idleWin : List Int
  recentWin : List Int
  azDue : Option Time
  pinned : Bool
  pinDue : Option Time
  noiseCount : Nat
  noiseDue : Option Time
  noisyLive : Bool
  noisyLatched : Bool
  conn : Conn
  disturb : Option Disturb
  lastEnd : Option Time
  pulses : Nat
  clippedPulses : Nat
  longPulses : Nat
  noises : Nat
  deriving DecidableEq, Repr

/-- The SCU after device reset, before the load completes (R21). -/
def Scu.reset : Scu :=
  { base := 0, pulse := none, standing := none, idleWait := 0, idleWin := [], recentWin := [], azDue := none
    pinned := false, pinDue := none, noiseCount := 0, noiseDue := none, noisyLive := false, noisyLatched := false
    conn := .connected, disturb := none, lastEnd := none, pulses := 0, clippedPulses := 0, longPulses := 0, noises := 0 }

/-! ### Pavement temperature unit (chapter 2) -/

inductive ProbeState
  | unknown
  | valid
  | fault
  | disabled
  deriving DecidableEq, Repr

inductive AlarmMode
  | comparator
  | twoEvent
  | oneEvent
  deriving DecidableEq, Repr

/-- A HOT or COLD alarm unit with its three parameters (R36). -/
structure Alarm where
  trip : Int
  hyst : Int
  mode : AlarmMode
  tripped : Bool
  event : Bool
  deriving DecidableEq, Repr

/-- One probe of the PTU (section 2.1); `filt` is F. -/
structure ProbeUnit where
  state : ProbeState
  last : Int
  filt : Int
  outRun : Nat
  inRun : Nat
  spikeRun : Nat
  fMin : Int
  fMax : Int
  hot : Alarm
  cold : Alarm
  faultEvent : Bool
  deriving DecidableEq, Repr

inductive Validity
  | valid
  | held
  | invalid
  deriving DecidableEq, Repr

inductive TempSource
  | mapped
  | mean
  | none
  deriving DecidableEq, Repr

/-- The lane temperature with its hold timer (section 2.1). -/
structure LaneTemp where
  tl : Int
  validity : Validity
  source : TempSource
  holdDue : Option Time
  deriving DecidableEq, Repr

structure Ptu where
  probe : Vector ProbeUnit 4
  lane : Vector LaneTemp 4
  deriving DecidableEq, Repr

/-- The PTU after device reset (R40, with the alarm defaults of R36). -/
def ProbeUnit.reset : ProbeUnit :=
  { state := .unknown, last := 0, filt := 0, outRun := 0, inRun := 0, spikeRun := 0, fMin := 0, fMax := 0
    hot := { trip := 960, hyst := 880, mode := .twoEvent, tripped := false, event := false }
    cold := { trip := 8, hyst := 32, mode := .twoEvent, tripped := false, event := false }
    faultEvent := false }

def LaneTemp.reset : LaneTemp := { tl := 320, validity := .invalid, source := .none, holdDue := none }

def Ptu.reset : Ptu := { probe := Vector.replicate 4 ProbeUnit.reset, lane := Vector.replicate 4 LaneTemp.reset }

/-! ### Measurement converter scheduler (chapter 3) -/

inductive SlotRule
  | probe
  | chargeElseProbe
  | chargeElseIdle
  | read
  | idle
  deriving DecidableEq, Repr

structure Slot where
  len : Nat
  rule : SlotRule
  deriving DecidableEq, Repr

/-- The converter's work in the running slot. `stopped` is a slot whose test was abandoned: it runs on with no work and ends
with outcome ABORTED (R55 step 5). -/
inductive Work
  | probe (p : Probe)
  | charge
  | read
  | none
  | stopped
  deriving DecidableEq, Repr

/-- The previous-slot outcome (section 3.1). -/
inductive SlotOutcome
  | probed
  | charged
  | readDone
  | aborted
  | idle
  deriving DecidableEq, Repr

/-- Origin of a test request, highest first (R47). -/
inductive Origin
  | recover
  | host
  | suspect
  | periodic
  deriving DecidableEq, Repr

/-- An entry of the test request queue (R47). -/
structure TestEntry where
  strip : Strip
  origin : Origin
  aborts : Nat
  stamp : Nat
  deriving DecidableEq, Repr

inductive Phase
  | charge
  | read
  deriving DecidableEq, Repr

/-- The test in flight with its phase (R53). -/
structure Flight where
  entry : TestEntry
  phase : Phase
  deriving DecidableEq, Repr

/-- What the MCS keeps per strip: the periodic timer, the last insulation code and the test counters. -/
structure StripTests where
  periodicDue : Option Time
  lastCode : Option Nat
  passed : Nat
  failed : Nat
  aborted : Nat
  deriving DecidableEq, Repr

structure Mcs where
  frame : Vector Slot 4
  pendingFrame : Vector Slot 4
  pos : Fin 4
  slotDue : Option Time
  work : Work
  prev : SlotOutcome
  pointer : Probe
  queue : List TestEntry
  stamps : Nat
  flight : Option Flight
  strip : Vector StripTests 16
  deriving DecidableEq, Repr

/-- The default frame (section 3.2). -/
def defaultFrame : Vector Slot 4 :=
  #v[⟨25, .probe⟩, ⟨100, .chargeElseProbe⟩, ⟨25, .read⟩, ⟨25, .probe⟩]

def StripTests.reset : StripTests := { periodicDue := none, lastCode := none, passed := 0, failed := 0, aborted := 0 }

/-- The MCS after device reset; the frame begins at load completion (R58). -/
def Mcs.reset : Mcs :=
  { frame := defaultFrame, pendingFrame := defaultFrame, pos := 0, slotDue := none, work := .none, prev := .idle
    pointer := 0, queue := [], stamps := 0, flight := none, strip := Vector.replicate 16 StripTests.reset }

/-! ### Axle pairing unit (chapter 4) -/

/-- The two rows of a lane. -/
inductive Row
  | up
  | down
  deriving DecidableEq, Repr

inductive HitKind
  | full
  | half
  | straddle
  deriving DecidableEq, Repr

/-- A row hit (R62). -/
structure RowHit where
  lane : Lane
  row : Row
  kind : HitKind
  time : Time
  left : Option PulseRecord
  right : Option PulseRecord
  flags : CodeSet
  deriving DecidableEq, Repr

/-- A pulse waiting in its side buffer with its lone expiry time (R60). -/
structure Waiting where
  pulse : PulseRecord
  expiry : Time
  deriving DecidableEq, Repr

/-- An entry of a pairing queue with its window (R71, R72); it expires when site time passes `hit.time + upper`. -/
structure QueueEntry where
  hit : RowHit
  lower : Nat
  upper : Nat
  deriving DecidableEq, Repr

/-- The APU. `transit` holds the records that have passed the delivery gate and have not yet arrived (R18, R61). -/
structure Apu where
  side : Vector (List Waiting) 16
  queue : Vector (List QueueEntry) 4
  orphans : Vector Nat 4
  transit : List PulseRecord
  deriving DecidableEq, Repr

def Apu.reset : Apu :=
  { side := Vector.replicate 16 [], queue := Vector.replicate 4 [], orphans := Vector.replicate 4 0, transit := [] }

/-! ### Vehicle assembly unit (chapter 6) -/

/-- The fields of a context that is not EMPTY (R103). -/
structure Progress where
  lastTime : Time
  vLast : Nat
  deadline : Time
  deriving DecidableEq, Repr

/-- An assembly context (R103). The record link is the record's number, which no other live record carries. -/
inductive Context
  | empty
  | linked (number : Nat) (p : Progress)
  | unrecorded (p : Progress)
  deriving DecidableEq, Repr

/-- A lane of the VAU: its context and its three counters (R121). -/
structure VauLane where
  ctx : Context
  recorded : Nat
  unrecorded : Nat
  evicted : Nat
  deriving DecidableEq, Repr

structure Vau where
  lane : Vector VauLane 4
  deriving DecidableEq, Repr

def Vau.reset : Vau :=
  { lane := Vector.replicate 4 { ctx := .empty, recorded := 0, unrecorded := 0, evicted := 0 } }

/-! ### Vehicle record table (chapter 7) -/

/-- A listed axle entry (R101, R129). -/
structure AxleEntry where
  time : Time
  speed : Nat
  load : Nat
  uLoad : Nat
  dLoad : Nat
  left : Nat
  right : Nat
  flags : CodeSet
  deriving DecidableEq, Repr

/-- A group of a record (R116). -/
structure Group where
  first : Nat
  count : Nat
  sum : Nat
  deriving DecidableEq, Repr

inductive RecState
  | opened
  | complete
  deriving DecidableEq, Repr

/-- A live record (R129). -/
structure Record where
  number : Nat
  lane : Lane
  state : RecState
  held : Bool
  unread : Bool
  tag : Option (BitVec 32)
  straddle : Option Nat
  count : Nat
  overflow : Bool
  calChanged : Bool
  axles : List AxleEntry
  spacings : List Nat
  groups : List Group
  gross : Nat
  meanSpeed : Nat
  classCode : Nat
  generation : Nat
  firstTime : Time
  lastTime : Time
  closeTime : Option Time
  laneTemp : Int
  laneValidity : Validity
  calCounter : Nat
  reasons : CodeSet
  certified : Bool
  deriving DecidableEq, Repr

/-- The record table: the live records in opening order (R127), the numbers of the COMPLETE records in completion order
(R128) and the record number counter (R112). The FREE entries are the rest of the forty (R123). -/
structure Vrt where
  live : List Record
  completed : List Nat
  counter : Nat
  deriving DecidableEq, Repr

def Vrt.reset : Vrt := { live := [], completed := [], counter := 1 }

/-! ### Class table (chapter 8) -/

/-- A class rule (R149). -/
structure ClassRule where
  valid : Bool
  code : Nat
  axMin : Nat
  axMax : Nat
  grossMin : Option Nat
  grossMax : Option Nat
  straddle : Bool
  windows : List (Nat × Nat)
  pattern : Option (List Nat)
  deriving DecidableEq, Repr

/-- The class table: two banks, the active-bank marker (bank 1 when set) and the generation (R149). -/
structure Cls where
  bank0 : Vector ClassRule 32
  bank1 : Vector ClassRule 32
  active1 : Bool
  generation : Nat
  deriving DecidableEq, Repr

/-- The empty rule (R150). -/
def ClassRule.blank : ClassRule :=
  { valid := false, code := 0, axMin := 1, axMax := 31, grossMin := none, grossMax := none, straddle := false
    windows := [], pattern := none }

def Cls.reset : Cls :=
  { bank0 := Vector.replicate 32 ClassRule.blank, bank1 := Vector.replicate 32 ClassRule.blank, active1 := false
    generation := 0 }

/-! ### Strip health unit (chapter 9) -/

inductive Service
  | inService
  | suspect
  | outOfService
  | recovering
  | disabled
  deriving DecidableEq, Repr

/-- The cause set of a strip (R163). -/
structure Causes where
  miss : Bool
  noise : Bool
  drift : Bool
  standing : Bool
  testFail : Bool
  deriving DecidableEq, Repr

def Causes.none : Causes := { miss := false, noise := false, drift := false, standing := false, testFail := false }

/-- The health record of a strip (R163). -/
structure Health where
  state : Service
  causes : Causes
  missCount : Nat
  failCount : Nat
  holdoffDue : Option Time
  leftService : Bool
  changed : Bool
  misses : Nat
  deriving DecidableEq, Repr

def Health.reset : Health :=
  { state := .inService, causes := Causes.none, missCount := 0, failCount := 0, holdoffDue := none, leftService := false
    changed := false, misses := 0 }

/-! ### Calibration store (chapter 10) -/

/-- The calibration values of a strip: its gains K0 to K8 and its factory zero Z. -/
structure StripCal where
  k : Vector Nat 9
  z : Int
  deriving DecidableEq, Repr

/-- The calibration values of a lane: its row spacing S and its trim. -/
structure LaneCal where
  spacing : Nat
  trim : Int
  deriving DecidableEq, Repr

/-- One set of calibration values (R182). -/
structure CalSet where
  strip : Vector StripCal 16
  lane : Vector LaneCal 4
  deriving DecidableEq, Repr

/-- The values before the first start-up load: the lower ends of K and S, no zero, no trim. DESIGN CHOICE, log 10. -/
def CalSet.blank : CalSet :=
  { strip := Vector.replicate 16 { k := Vector.replicate 9 1, z := 0 }
    lane := Vector.replicate 4 { spacing := 500, trim := 0 } }

/-- The nonvolatile memory: two image slots and the slot record (R184). -/
structure Nonvolatile where
  slot0 : List Byte
  slot1 : List Byte
  current1 : Bool
  counter : Nat
  failMark : Bool
  deriving DecidableEq, Repr

/-- What a new part's memory holds: every byte 0. DESIGN CHOICE, log 9. -/
def Nonvolatile.blank : Nonvolatile :=
  { slot0 := List.replicate 338 0, slot1 := List.replicate 338 0, current1 := false, counter := 0, failMark := false }

/-- The calibration store (R182). `store` is the acceptance time of the store in flight, `closed` the switch position taken,
`calsw` the input itself (closed or open) and `calswDue` the time at which its new position has been held for 800 tu. -/
structure Cst where
  nv : Nonvolatile
  counter : Nat
  working : CalSet
  staging : CalSet
  store : Option Time
  invalid : Bool
  unstored : Bool
  closed : Bool
  calsw : Bool
  calswDue : Option Time
  deriving DecidableEq, Repr

/-- The CST at the release of device reset, with the memory and the input as they are (R197, R198). -/
def Cst.atReset (nv : Nonvolatile) (calsw : Bool) : Cst :=
  { nv := nv, counter := 0, working := CalSet.blank, staging := CalSet.blank, store := none, invalid := false
    unstored := false, closed := false, calsw := calsw, calswDue := none }

/-! ### Command port (chapter 11) -/

/-- The status codes of R204. -/
inductive Status
  | ok | linkCrc | linkLength | unknownCmd | badValue | noRecord | wrongState | notAdjacent
  | tooManyAxles | tableFull | holdLimit | laneBusy | calLocked | crcMismatch | busy | holdoff
  deriving DecidableEq, Repr

/-- What a command earns: a status code and a payload. -/
structure Reply where
  status : Status
  payload : List Byte
  deriving DecidableEq, Repr

/-- The pending response (R202); its length is that of its payload. -/
structure Response where
  status : Status
  echo : Byte
  payload : List Byte
  deriving DecidableEq, Repr

/-- The command port: node number, pending response, the three latched causes, the sync latch and the bytes driven on MISO
in the latest transaction. -/
structure Cpt where
  node : BitVec 2
  resp : Response
  calEvent : Bool
  unrecordedLatch : Bool
  scheduleShort : Bool
  syncLatch : Option Time
  miso : List Byte
  deriving DecidableEq, Repr

/-- The CPT after device reset (R212). -/
def Cpt.atReset (node : BitVec 2) : Cpt :=
  { node := node, resp := { status := .ok, echo := 0, payload := [] }, calEvent := false, unrecordedLatch := false
    scheduleShort := false, syncLatch := none, miso := [] }

/-! ### Parameters (R207) -/

/-- The lane parameters of one lane. -/
structure LanePar where
  tOn : Nat
  tOff : Nat
  nb : Nat
  noiseLim : Nat
  wLr : Nat
  spdTol : Nat
  maxSp : Nat
  maxClose : Nat
  rdt : Nat
  probeMap : Probe
  deriving DecidableEq, Repr

/-- The parameters that no other field holds. -/
structure Par where
  lane : Vector LanePar 4
  straddleEn : Vector Bool 3
  azl : Nat
  azTol : Nat
  azStep : Nat
  grp : Nat
  tempHold : Nat
  testLimit : Nat
  testPeriod : Nat
  missLim : Nat
  holdoff : Nat
  attnMask : Byte
  deriving DecidableEq, Repr

def LanePar.default (n : Probe) : LanePar :=
  { tOn := 400, tOff := 200, nb := 60, noiseLim := 400, wLr := 48, spdTol := 15, maxSp := 1500, maxClose := 64000
    rdt := 100, probeMap := n }

/-- Every parameter at its default (R207). -/
def Par.reset : Par :=
  { lane := #v[LanePar.default 0, LanePar.default 1, LanePar.default 2, LanePar.default 3]
    straddleEn := Vector.replicate 3 true, azl := 1024, azTol := 2, azStep := 10, grp := 240, tempHold := 600
    testLimit := 200, testPeriod := 60, missLim := 4, holdoff := 10, attnMask := 0 }

/-! ### The whole part -/

/-- The state of the part. `loaded` says whether the calibration load of device reset has completed; `pending` is the queue
of waiting commands. -/
structure State where
  siteTime : Time
  loaded : Bool
  par : Par
  scu : Vector Scu 16
  ptu : Ptu
  mcs : Mcs
  apu : Apu
  vau : Vau
  vrt : Vrt
  cls : Cls
  shu : Vector Health 16
  cst : Cst
  cpt : Cpt
  pending : List Instr
  deriving DecidableEq, Repr

/-- Why the part stops with a fault. -/
inductive Fault
  /-- Raised by UNKNOWN_CMD when its bytes are a sound frame of a known command: such a transaction is a step of that
  command's own row and no UNKNOWN_CMD step (R202). Safe: no transaction of the part is lost by it. -/
  | soundFrame
  deriving DecidableEq, Repr

/-- Why a command is refused by the model. -/
inductive Refusal
  /-- Raised by `exec` for a command that has no meaning yet. Safe. -/
  | notModelled (mnemonic : String)
  deriving DecidableEq, Repr

/-- Every block at its reset values, with the given node number, nonvolatile memory, CALSW input and queue (R212). -/
def State.atReset (node : BitVec 2) (nv : Nonvolatile) (calsw : Bool) (pending : List Instr) : State :=
  { siteTime := 0, loaded := false, par := Par.reset, scu := Vector.replicate 16 Scu.reset, ptu := Ptu.reset
    mcs := Mcs.reset, apu := Apu.reset, vau := Vau.reset, vrt := Vrt.reset, cls := Cls.reset
    shu := Vector.replicate 16 Health.reset, cst := Cst.atReset nv calsw, cpt := Cpt.atReset node, pending := pending }

/-- The part right after a device reset with both straps low, a blank memory and the switch open (R212; log 9, log 11). -/
def State.reset : State := State.atReset 0 Nonvolatile.blank false []

end Sys2Proof.Machine
end

