-- ==== Sys2Proof/Machine/Operands.lean ====
section
/-! DEFINITION. Operand forms: payload fields (most significant byte first, two's complement, R200), the bytes of a response,
and the numbering of strips, rows and lanes (00_scope.md, "The site"). -/

namespace Sys2Proof.Machine

/-! ### Payload fields -/

/-- Byte k of a payload as a number; a byte that is not there reads 0 (every rule checks the length first). -/
def u8 (p : List Byte) (k : Nat) : Nat := (p.getD k 0).toNat

/-- The unsigned 16-bit field at offset k. -/
def u16 (p : List Byte) (k : Nat) : Nat := u8 p k * 256 + u8 p (k + 1)

/-- The unsigned 32-bit field at offset k. -/
def u32 (p : List Byte) (k : Nat) : Nat := u16 p k * 65536 + u16 p (k + 2)

/-- The signed 16-bit field at offset k. -/
def s16 (p : List Byte) (k : Nat) : Int := (BitVec.ofNat 16 (u16 p k)).toInt

/-- The signed 32-bit field at offset k. -/
def s32 (p : List Byte) (k : Nat) : Int := (BitVec.ofNat 32 (u32 p k)).toInt

/-! ### Response bytes -/

def byte (n : Nat) : Byte := BitVec.ofNat 8 n

def bytes2 (n : Nat) : List Byte := [byte (n / 256), byte n]

def bytes4 (n : Nat) : List Byte := [byte (n / 16777216), byte (n / 65536), byte (n / 256), byte n]

def signed2 (z : Int) : List Byte := bytes2 (BitVec.ofInt 16 z).toNat

def signed4 (z : Int) : List Byte := bytes4 (BitVec.ofInt 32 z).toNat

/-- A bit of weight w, present when the condition holds. -/
def bit (w : Nat) (b : Bool) : Nat := if b then w else 0

/-- A number as an index below n, if it is one. -/
def index (n k : Nat) : Option (Fin n) := if h : k < n then some ⟨k, h⟩ else none

/-! ### Strips, rows and lanes -/

/-- The lane of a strip. -/
def laneOf (i : Strip) : Lane := ⟨i.val / 4, by omega⟩

/-- The position number of a strip: 0 UL, 1 UR, 2 DL, 3 DR. -/
def posOf (i : Strip) : Fin 4 := ⟨i.val % 4, by omega⟩

/-- The strip at a position of a lane. -/
def stripAt (n : Lane) (pos : Fin 4) : Strip := ⟨n.val * 4 + pos.val, by omega⟩

/-- Whether a strip is a left half-strip. -/
def isLeft (i : Strip) : Bool := i.val % 2 = 0

/-- The row of a strip. -/
def rowOf (i : Strip) : Row := if i.val % 4 < 2 then .up else .down

/-- The other strip of the same row of the same lane. -/
def partnerOf (i : Strip) : Strip := if h : i.val % 2 = 0 then ⟨i.val + 1, by omega⟩ else ⟨i.val - 1, by omega⟩

/-- The left strip of a row of a lane. -/
def leftStrip (n : Lane) (r : Row) : Strip :=
  match r with
  | .up => stripAt n 0
  | .down => stripAt n 2

/-- The right strip of a row of a lane. -/
def rightStrip (n : Lane) (r : Row) : Strip :=
  match r with
  | .up => stripAt n 1
  | .down => stripAt n 3

/-- All strips, all lanes and the strips of a lane, in index order. -/
def allStrips : List Strip := [0, 1, 2, 3, 4, 5, 6, 7, 8, 9, 10, 11, 12, 13, 14, 15]

def allLanes : List Lane := [0, 1, 2, 3]

def laneStrips (n : Lane) : List Strip := [stripAt n 0, stripAt n 1, stripAt n 2, stripAt n 3]

end Sys2Proof.Machine
end

