-- ==== Sys2Proof/Machine/Flags.lean ====
section
/-! DEFINITION. Axle flags and reason codes as the code set of R130, their two classes (R100), and the status bytes that
gather single-bit marks (R130, R178, R189, R209). -/

namespace Sys2Proof.Machine

/-! ### The codes (R130), bit by bit -/

def codeBit (k : Nat) : CodeSet := 1 <<< k

def flagClipped : CodeSet := codeBit 0
def flagLong : CodeSet := codeBit 1
def flagHalfAxle : CodeSet := codeBit 2
def flagTestDisturbed : CodeSet := codeBit 3
def flagStripOut : CodeSet := codeBit 4
def flagBorrowedSpeed : CodeSet := codeBit 5
def flagSingleRow : CodeSet := codeBit 6
def flagNoFullRow : CodeSet := codeBit 7
def flagSpeedLimit : CodeSet := codeBit 8
def flagRowDisagree : CodeSet := codeBit 9
def flagTempInvalid : CodeSet := codeBit 10
def flagCalInvalid : CodeSet := codeBit 11
def flagCalMode : CodeSet := codeBit 12
def flagCalUnstored : CodeSet := codeBit 13
def flagTempHeld : CodeSet := codeBit 14
def flagSuspectStrip : CodeSet := codeBit 15
def flagStraddle : CodeSet := codeBit 16
def codeAxleOverflow : CodeSet := codeBit 17
def codeCalChanged : CodeSet := codeBit 18
def codeHostEdited : CodeSet := codeBit 19

/-- A code when its condition holds, no code otherwise. -/
def codeIf (b : Bool) (c : CodeSet) : CodeSet := if b then c else 0

/-- Whether a set holds a code. -/
def hasCode (set c : CodeSet) : Bool := set &&& c ≠ 0

/-- The 14 uncertifying axle flags (R100): bits 0 to 13. -/
def uncertifying : CodeSet := 0x3FFF

/-- The uncertifying flags of a list of axles (R118). -/
def uncertifyingFlags (axles : List AxleEntry) : CodeSet :=
  axles.foldl (fun acc a => acc ||| (a.flags &&& uncertifying)) 0

/-! ### Status bytes -/

/-- The record status byte (R130). -/
def Record.statusByte (r : Record) : Byte :=
  byte (r.lane.val + bit 4 (r.state = .complete) + bit 8 r.held + bit 16 r.unread + bit 32 r.certified +
    bit 64 r.tag.isSome + bit 128 r.straddle.isSome)

/-- The calibration state byte of CAL_READ and STATUS (R189, R206). -/
def Cst.stateByte (c : Cst) : Byte :=
  byte (bit 1 c.invalid + bit 2 c.store.isSome + bit 4 c.unstored + bit 8 c.closed)

/-- The cause set byte of STRIP_STATUS (R178). -/
def Causes.toByte (c : Causes) : Byte :=
  byte (bit 1 c.miss + bit 2 c.noise + bit 4 c.drift + bit 8 c.standing + bit 16 c.testFail)

/-- Whether a cause set is non-empty (R163). -/
def Causes.any (c : Causes) : Bool := c.miss || c.noise || c.drift || c.standing || c.testFail

/-- The coding of the service states (R178). -/
def Service.code : Service → Byte
  | .inService => 0
  | .suspect => 1
  | .outOfService => 2
  | .recovering => 3
  | .disabled => 4

/-- The coding of the validities (R130, R209). -/
def Validity.code : Validity → Nat
  | .valid => 0
  | .held => 1
  | .invalid => 2

/-- The status codes (R204). -/
def Status.code : Status → Byte
  | .ok => 0x00
  | .linkCrc => 0x01
  | .linkLength => 0x02
  | .unknownCmd => 0x03
  | .badValue => 0x04
  | .noRecord => 0x05
  | .wrongState => 0x06
  | .notAdjacent => 0x07
  | .tooManyAxles => 0x08
  | .tableFull => 0x09
  | .holdLimit => 0x0A
  | .laneBusy => 0x0B
  | .calLocked => 0x0C
  | .crcMismatch => 0x0D
  | .busy => 0x0E
  | .holdoff => 0x0F

end Sys2Proof.Machine
end

