-- ==== Sys2Proof/Machine/Ops.lean ====
section
/-! DEFINITION. The operations that more than one block uses: fixed-size vectors, times and timers, counters, one updater
per block, test requests (R47, R48) and the service state machine of strip health (R163 to R170). -/

namespace Sys2Proof.Machine

/-! ### Vectors, numbers, times -/

/-- One element of a vector changed by f. -/
def upd {α : Type} {n : Nat} (v : Vector α n) (i : Fin n) (f : α → α) : Vector α n := v.set i (f v[i])

/-- Every element of a vector changed by f. -/
def mapAll {α β : Type} {n : Nat} (v : Vector α n) (f : α → β) : Vector β n := Vector.ofFn fun i => f v[i]

/-- A 16-bit counter advances by one and saturates (00_scope.md, "Counters and latches"). -/
def bump (n : Nat) : Nat := min (n + 1) 65535

/-- Clamping into a range (00_scope.md, "Arithmetic"). -/
def clamp (lo hi x : Int) : Int := max lo (min x hi)

/-- The interval from t to now, modulo 2^32 (00_scope.md, "Site time"). -/
def elapsed (t now : Time) : Nat := (now - t).toNat

/-- An interval is in reach when it is below 2^31 tu. -/
def inReach (t now : Time) : Bool := elapsed t now < 2147483648

/-- Site time has reached t. -/
def reached (t now : Time) : Bool := inReach t now

/-- Site time has passed t: the interval from t to now is above zero and in reach. -/
def passed (t now : Time) : Bool := 0 < elapsed t now && inReach t now

/-- n tu after t. -/
def after (t : Time) (n : Nat) : Time := t + BitVec.ofNat 32 n

/-- A timer that runs and whose moment has come. -/
def expired (due : Option Time) (now : Time) : Bool :=
  match due with
  | some t => reached t now
  | none => false

/-- The time left of a timer; 0 when it is stopped or its moment has come. -/
def timeLeft (due : Option Time) (now : Time) : Nat :=
  match due with
  | some t => if reached t now then 0 else elapsed now t
  | none => 0

/-! ### Updating one block -/

def State.updScu (s : State) (i : Strip) (f : Scu → Scu) : State := { s with scu := upd s.scu i f }

def State.updShu (s : State) (i : Strip) (f : Health → Health) : State := { s with shu := upd s.shu i f }

def State.updTests (s : State) (i : Strip) (f : StripTests → StripTests) : State :=
  { s with mcs := { s.mcs with strip := upd s.mcs.strip i f } }

def State.updLane (s : State) (n : Lane) (f : VauLane → VauLane) : State :=
  { s with vau := { s.vau with lane := upd s.vau.lane n f } }

/-! ### Test requests (R47, R48) -/

/-- Place of an origin in the queue's order, RECOVER first (R47). -/
def Origin.rank : Origin → Nat
  | .recover => 0
  | .host => 1
  | .suspect => 2
  | .periodic => 3

/-- One entry stands before another: by origin, then by arrival stamp (R47). -/
def TestEntry.before (a b : TestEntry) : Bool :=
  a.origin.rank < b.origin.rank || (a.origin.rank = b.origin.rank && a.stamp < b.stamp)

/-- An entry takes its place in the queue (R47). -/
def insertTest (e : TestEntry) : List TestEntry → List TestEntry
  | [] => [e]
  | q :: qs => if e.before q then e :: q :: qs else q :: insertTest e qs

/-- The strip's entry in the queue, if it has one. -/
def Mcs.queued (m : Mcs) (i : Strip) : Option TestEntry := m.queue.find? fun e => e.strip = i

/-- The strip's test in flight, if it is the one. -/
def Mcs.inFlight (m : Mcs) (i : Strip) : Option Flight := m.flight.filter fun f => f.entry.strip = i

/-- A test request arrives (R48): a new entry, a raised one with a fresh arrival stamp, or nothing. -/
def Mcs.request (m : Mcs) (i : Strip) (o : Origin) : Mcs :=
  match m.inFlight i with
  | some f =>
    if o.rank < f.entry.origin.rank then
      { m with flight := some { f with entry := { f.entry with origin := o, stamp := m.stamps } }, stamps := m.stamps + 1 }
    else m
  | none =>
    match m.queued i with
    | some e =>
      if o.rank < e.origin.rank then
        { m with
          queue := insertTest { e with origin := o, stamp := m.stamps } (m.queue.filter fun q => q.strip ≠ i)
          stamps := m.stamps + 1 }
      else m
    | none => { m with queue := insertTest ⟨i, o, 0, m.stamps⟩ m.queue, stamps := m.stamps + 1 }

def State.request (s : State) (i : Strip) (o : Origin) : State := { s with mcs := s.mcs.request i o }

/-! ### Disturbance (R17) -/

/-- Whether a strip was disturbed at site time t (R17). -/
def Scu.disturbedAt (u : Scu) (t : Time) : Bool :=
  match u.disturb with
  | none => false
  | some d =>
    inReach d.start t &&
      match d.stop with
      | none => true
      | some stop => passed t stop

/-! ### Service states (R163 to R170) -/

/-- A change of service state sets the state-changed latch, and out of IN_SERVICE the left-service view too (R163). -/
def Health.enter (h : Health) (new : Service) : Health :=
  { h with
    state := new
    changed := h.changed || new ≠ h.state
    leftService := h.leftService || (h.state = .inService && new ≠ .inService) }

/-- A strip in use: its pulses reach the APU and its rows may be used (R18, R92). -/
def Service.delivers : Service → Bool
  | .inService | .suspect | .recovering => true
  | .outOfService | .disabled => false

/-- The re-evaluation of a strip in IN_SERVICE or SUSPECT after a change of its cause set (R164). -/
def State.reevaluate (s : State) (i : Strip) : State :=
  match s.shu[i].state, s.shu[i].causes.any with
  | .inService, true => (s.updShu i (·.enter .suspect)).request i .suspect
  | .suspect, false => s.updShu i (·.enter .inService)
  | _, _ => s

/-- Evidence changes the cause set of a strip, and the service state follows it (R164, R167, R168). A DISABLED strip's cause
set stays empty (R163, R176). -/
def State.evidence (s : State) (i : Strip) (f : Causes → Causes) : State :=
  if s.shu[i].state = .disabled ∨ f s.shu[i].causes = s.shu[i].causes then s
  else (s.updShu i fun h => { h with causes := f h.causes }).reevaluate i

/-- The APU purges a strip that leaves service (R67); a record of it still in transit goes with the rest (log 5). -/
def Apu.purge (a : Apu) (i : Strip) : Apu :=
  { a with side := upd a.side i fun _ => [], transit := a.transit.filter fun r => r.strip ≠ i }

/-- Entry into OUT_OF_SERVICE, steps 1, 2 and 4 of R170: state and marks, consecutive-fail count, discard mark of a pulse in
progress (R18), purge (R67). -/
def State.takeOut (s : State) (i : Strip) : State :=
  let s := s.updShu i fun h => { h.enter .outOfService with failCount := 0 }
  let s := s.updScu i fun u => { u with pulse := u.pulse.map fun p => { p with discard := true } }
  { s with apu := s.apu.purge i }

/-- Entry into OUT_OF_SERVICE by the evidence: R170 with the start of the holdoff timer, HOLDOFF minutes. -/
def State.failOut (s : State) (i : Strip) : State :=
  let s := s.takeOut i
  s.updShu i fun h => { h with holdoffDue := some (after s.siteTime (s.par.holdoff * 960000)) }

/-- A miss report that reaches a strip's health record (R165). -/
def State.miss (s : State) (i : Strip) : State :=
  let h := s.shu[i]
  if h.state.delivers then
    let count := min (h.missCount + 1) 255
    let causes := { h.causes with miss := h.causes.miss || s.par.missLim ≤ count }
    let s1 := s.updShu i fun h => { h with missCount := count, misses := bump h.misses, causes := causes }
    if h.state = .recovering then s1
    else if 4 * s.par.missLim ≤ count then s1.failOut i
    else if causes = h.causes then s1
    else s1.reevaluate i
  else s

/-- A miss report of the APU with its reference time; an excused strip gets none (R70). -/
def State.missReport (s : State) (i : Strip) (ref : Time) : State :=
  if !s.shu[i].state.delivers || s.scu[i].disturbedAt ref || s.scu[i].disturbedAt s.siteTime then s
  else s.miss i

/-- A contribution report (R69, R166). -/
def State.contribution (s : State) (i : Strip) : State :=
  if s.shu[i].state.delivers then
    (s.updShu i fun h => { h with missCount := 0 }).evidence i fun c => { c with miss := false }
  else s

/-! ### Pinned state (R5) -/

/-- The pinned state is cleared, its timer stops and DRIFT is withdrawn (R5, R168). -/
def State.clearPinned (s : State) (i : Strip) : State :=
  (s.updScu i fun u => { u with pinned := false, pinDue := none }).evidence i fun c => { c with drift := false }

/-- The lower end of a strip's baseline window (R2). -/
def windowLow (azl : Nat) (z : Int) : Int := max (z - azl) (-32768)

/-- The upper end of a strip's baseline window (R2). -/
def windowHigh (azl : Nat) (z : Int) : Int := min (z + azl) 32767

/-- B of a strip clamped into the window of R2. -/
def State.clampBase (s : State) (i : Strip) (b : Int) : Int :=
  clamp (windowLow s.par.azl s.cst.working.strip[i].z) (windowHigh s.par.azl s.cst.working.strip[i].z) b

/-- A window change: B is clamped into the new window and the pinned state is cleared (R2). -/
def State.windowChange (s : State) (i : Strip) : State :=
  (s.updScu i fun u => { u with base := s.clampBase i u.base }).clearPinned i

/-! ### Lane quiet (R51) -/

/-- The strip stands in the way of lane quiet: a pulse, a standing load, or a pulse end less than 200 ms ago. -/
def State.stripBusy (s : State) (i : Strip) : Bool :=
  s.scu[i].pulse.isSome || s.scu[i].standing.isSome || !s.apu.side[i].isEmpty ||
    match s.scu[i].lastEnd with
    | some t => elapsed t s.siteTime < Config.quietTime
    | none => false

/-- A lane is quiet (R51). -/
def State.quiet (s : State) (n : Lane) : Bool :=
  (laneStrips n).all (fun i => !s.stripBusy i) && s.apu.queue[n].isEmpty && s.vau.lane[n].ctx = .empty

end Sys2Proof.Machine
end

