-- ==== Sys2Proof/Machine/Classing.lean ====
section
/-! DEFINITION. Chapter 8, section 8.5: matching a record against the active bank. -/

namespace Sys2Proof.Machine

/-- The active bank (R149). -/
def Cls.active (c : Cls) : Vector ClassRule 32 := if c.active1 then c.bank1 else c.bank0

/-- The shadow bank (R149). -/
def Cls.shadow (c : Cls) : Vector ClassRule 32 := if c.active1 then c.bank0 else c.bank1

/-- The shadow bank replaced. -/
def Cls.withShadow (c : Cls) (b : Vector ClassRule 32) : Cls :=
  if c.active1 then { c with bank0 := b } else { c with bank1 := b }

/-- The five items of a record that the asking block hands over (R156). -/
structure ClassQuery where
  count : Nat
  gross : Nat
  straddle : Bool
  spacings : List Nat
  groups : List Nat
  deriving DecidableEq, Repr

/-- An absent bound places no bound (R149). -/
def boundHolds (b : Option Nat) (f : Nat → Bool) : Bool :=
  match b with
  | some x => f x
  | none => true

/-- The spacing windows in their places; spacings beyond the last window are not tested (R157 condition 4). -/
def windowsHold : List (Nat × Nat) → List Nat → Bool
  | [], _ => true
  | _ :: _, [] => false
  | (lo, hi) :: ws, x :: xs => lo ≤ x && x ≤ hi && windowsHold ws xs

/-- A rule matches a record (R157). -/
def ClassRule.matches (r : ClassRule) (q : ClassQuery) : Bool :=
  r.valid && (r.axMin ≤ q.count && q.count ≤ r.axMax) &&
    (boundHolds r.grossMin (fun g => g ≤ q.gross) && boundHolds r.grossMax fun g => q.gross ≤ g) &&
    (!q.straddle || r.straddle) && windowsHold r.windows q.spacings &&
    match r.pattern with
    | some sizes => sizes = q.groups
    | none => true

/-- The code of the first matching rule of the active bank, 0 when none matches (R159). -/
def Cls.classify (c : Cls) (q : ClassQuery) : Nat :=
  match c.active.toList.find? fun r => r.matches q with
  | some r => r.code
  | none => 0

/-- What a record hands over (R156). -/
def Record.query (r : Record) : ClassQuery :=
  { count := r.count, gross := r.gross, straddle := r.straddle.isSome, spacings := r.spacings
    groups := r.groups.map (·.count) }

/-- A record takes the class code and the generation of the active bank (R117, R140, R141). -/
def Record.classed (r : Record) (c : Cls) : Record :=
  { r with classCode := c.classify r.query, generation := c.generation }

end Sys2Proof.Machine
end

