-- ==== Sys2Proof/Machine/Lcu.lean ====
section
/-! DEFINITION. Chapter 5: one weighing. The LCU holds no state; it reads the working calibration, the lane temperatures, the
service states and the calibration flags as they stand (R83). -/

namespace Sys2Proof.Machine

/-- An axle candidate (R78). `delta` is present for a two-row axle, `borrowed` for a one-row axle. -/
structure Candidate where
  lane : Lane
  up : Option RowHit
  down : Option RowHit
  ref : Time
  delta : Option Nat
  borrowed : Option Nat
  straddle : Option Nat
  flags : CodeSet
  deriving DecidableEq, Repr

/-- A weighed axle (R101): a lane, a straddle boundary and the fields of a listed axle entry. -/
structure WeighedAxle where
  lane : Lane
  straddle : Option Nat
  entry : AxleEntry
  deriving DecidableEq, Repr

/-! ### Speed (R84, R85) -/

/-- The speed of a two-row axle before it is held within the site-wide limits (R84). -/
def rawSpeed (spacing delta : Nat) : Nat := spacing * 16000 / delta

/-- Speed and flag of a candidate (R84, R85). -/
def Candidate.speed (c : Candidate) (spacing : Nat) : Nat × CodeSet :=
  match c.delta with
  | some delta =>
    let v := rawSpeed spacing delta
    (max Config.vMin (min v Config.vMax), codeIf (v < Config.vMin || Config.vMax < v) flagSpeedLimit)
  | none => (c.borrowed.getD Config.vMin, 0)

/-! ### Gain (R86 to R88) -/

/-- Gain value K(i); breakpoint i lies at −640 + 240 × i. -/
def StripCal.gain (c : StripCal) (i : Nat) : Int := c.k.toList.getD i 0

/-- The temperature-interpolated gain Kt (R86, R87). -/
def StripCal.gainAt (c : StripCal) (tl : Int) : Int :=
  let t := clamp (-640) 1280 tl
  if t = 1280 then c.gain 8
  else
    let i := (t + 640) / 240
    let f := t + 640 - 240 * i
    let d := c.gain (i.toNat + 1) - c.gain i.toNat
    c.gain i.toNat + (d * f + 120) / 240

/-- The effective gain K_eff (R88). -/
def effectiveGain (kt trim : Int) : Int := min ((kt * (4096 + trim) + 2048) / 4096) 65535

/-! ### Loads (R89 to R95) -/

/-- A wheel load from area, speed and effective gain (R89). -/
def wheelLoad (area v keff : Nat) : Nat := min ((area * v * keff + 2147483648) / 4294967296) 65535

/-- The wheel load of a pulse: 0 for a LONG pulse, otherwise with its own strip's gain table, TL and trim (R86, R90). -/
def State.wheel (s : State) (v : Nat) (r : PulseRecord) : Nat :=
  if r.long then 0
  else
    let n := laneOf r.strip
    let kt := s.cst.working.strip[r.strip].gainAt s.ptu.lane[n].tl
    wheelLoad r.area v (effectiveGain kt s.cst.working.lane[n].trim).toNat

/-- The pulses of a row hit. -/
def RowHit.pulses (h : RowHit) : List PulseRecord := h.left.toList ++ h.right.toList

/-- The row hits that are present, the upstream row first (R91). -/
def Candidate.hits (c : Candidate) : List RowHit := c.up.toList ++ c.down.toList

/-- The pulses of a candidate. -/
def Candidate.pulses (c : Candidate) : List PulseRecord := c.hits.flatMap RowHit.pulses

/-- The load of a row: the sum of its wheel loads, 0 when the row is absent (R91). -/
def State.rowLoad (s : State) (v : Nat) (h : Option RowHit) : Nat :=
  match h with
  | some h => (h.pulses.map (s.wheel v)).sum
  | none => 0

/-- A present row is usable (R92). -/
def State.usableRow (s : State) (h : Option RowHit) : Bool :=
  match h with
  | some h => h.kind ≠ .half && h.pulses.all fun r => s.shu[r.strip].state.delivers
  | none => false

/-- The mean of two loads, rounded half up. -/
def meanLoad (a b : Nat) : Nat := (a + b + 1) / 2

/-- The axle load and its flag (R93). With no usable row and one row present, the absent row's load is 0 and the sum is the
load of the present row. -/
def axleLoad (usableU usableD bothPresent : Bool) (u d : Nat) : Nat × CodeSet :=
  match usableU, usableD with
  | true, true => (meanLoad u d, 0)
  | true, false => (u, flagSingleRow)
  | false, true => (d, flagSingleRow)
  | false, false => (if bothPresent then meanLoad u d else u + d, flagNoFullRow)

/-- The disagreement of two usable rows (R94). -/
def rowsDisagree (rdt u d : Nat) : Bool := rdt * (u + d) < 2000 * (max u d - min u d)

/-- The left or right wheel load: the mean over the present rows that hold that pulse (R95). -/
def sideLoad : List Nat → Nat
  | [] => 0
  | [a] => a
  | a :: b :: _ => meanLoad a b

/-! ### Flags (R96 to R99) -/

/-- The flags from strips, temperatures and the calibration store (R97 to R99). -/
def State.weighFlags (s : State) (c : Candidate) : CodeSet :=
  let strips := c.pulses.map (·.strip)
  let suspect := strips.any fun i => s.shu[i].state = .suspect || s.shu[i].state = .recovering
  let validity (v : Validity) : Bool := strips.any fun i => s.ptu.lane[laneOf i].validity = v
  codeIf suspect flagSuspectStrip ||| codeIf (validity .held) flagTempHeld ||| codeIf (validity .invalid) flagTempInvalid |||
    codeIf s.cst.invalid flagCalInvalid ||| codeIf s.cst.closed flagCalMode ||| codeIf s.cst.unstored flagCalUnstored

/-- The LCU weighs a candidate (R83 to R101). -/
def State.weigh (s : State) (c : Candidate) : WeighedAxle :=
  let speed := c.speed s.cst.working.lane[c.lane].spacing
  let v := speed.1
  let u := s.rowLoad v c.up
  let d := s.rowLoad v c.down
  let usableU := s.usableRow c.up
  let usableD := s.usableRow c.down
  let load := axleLoad usableU usableD (c.up.isSome && c.down.isSome) u d
  let disagree := usableU && usableD && rowsDisagree s.par.lane[c.lane].rdt u d
  { lane := c.lane
    straddle := c.straddle
    entry :=
      { time := c.ref
        speed := v
        load := load.1
        uLoad := u
        dLoad := d
        left := sideLoad ((c.hits.filterMap (·.left)).map (s.wheel v))
        right := sideLoad ((c.hits.filterMap (·.right)).map (s.wheel v))
        flags := c.flags ||| speed.2 ||| load.2 ||| codeIf disagree flagRowDisagree ||| s.weighFlags c } }

/-! ### Spacing (R102) -/

/-- The spacing in cm between an earlier axle (t1, v1) and a later one (t2, v2). -/
def spacing (t1 : Time) (v1 : Nat) (t2 : Time) (v2 : Nat) : Nat :=
  if inReach t1 t2 then min ((elapsed t1 t2 * ((v1 + v2) / 2) + 80000) / 160000) 65535 else 65535

end Sys2Proof.Machine
end

