-- ==== Sys2Proof/Machine/Vau.lean ====
section
/-! DEFINITION. Chapter 6: the assembly contexts, opening, appending and closing, table entries and record numbers. -/

namespace Sys2Proof.Machine

/-! ### Records by number -/

/-- The live record that carries a number (R129). -/
def Vrt.find (v : Vrt) (n : Nat) : Option Record := v.live.find? fun r => r.number = n

/-- The live record of a number changed by f. -/
def Vrt.update (v : Vrt) (n : Nat) (f : Record → Record) : Vrt :=
  { v with live := v.live.map fun r => if r.number = n then f r else r }

/-- A record leaves both lists, its number is released and its entry becomes FREE (R110, R139, R144). -/
def Vrt.free (v : Vrt) (n : Nat) : Vrt :=
  { v with live := v.live.filter fun r => r.number ≠ n, completed := v.completed.filter fun k => k ≠ n }

def State.updVrt (s : State) (f : Vrt → Vrt) : State := { s with vrt := f s.vrt }

/-! ### Record numbers (R112) -/

/-- The number after a number; 65535 is followed by 1. -/
def nextNumber (n : Nat) : Nat := if n < 65535 then n + 1 else 1

/-- The search of R112 among the numbers in use; it ends within 41 candidates. -/
def freeNumber (used : List Nat) : Nat → Nat → Nat
  | 0, c => c
  | fuel + 1, c => if c ∈ used then freeNumber used fuel (nextNumber c) else c

/-- The number that the next new record takes (R112). -/
def Vrt.nextFree (v : Vrt) : Nat := freeNumber (v.live.map (·.number)) (Config.tableSize + 1) v.counter

/-! ### Groups and figures (R116, R117, R141) -/

/-- The groups that follow a group under way (R116). -/
def groupsFrom (grp : Nat) (cur : Group) : List Nat → List Nat → List Group
  | [], _ => [cur]
  | w :: ws, sp =>
    if sp.headD 0 ≤ grp then groupsFrom grp { cur with count := cur.count + 1, sum := cur.sum + w } ws sp.tail
    else cur :: groupsFrom grp { first := cur.first + cur.count, count := 1, sum := w } ws sp.tail

/-- The groups of listed axle loads and their spacings (R116). -/
def formGroups (grp : Nat) (loads spacings : List Nat) : List Group :=
  match loads with
  | [] => []
  | w :: ws => groupsFrom grp { first := 0, count := 1, sum := w } ws spacings

/-- The floor of the mean of the listed axles' speeds (R117). -/
def meanOfSpeeds (axles : List AxleEntry) : Nat := (axles.map (·.speed)).sum / axles.length

/-- The groups of a record with GRP as it stands (R116). -/
def Record.grouped (r : Record) (grp : Nat) : Record :=
  { r with groups := formGroups grp (r.axles.map (·.load)) r.spacings }

/-- The reason set of a closing record (R118). -/
def Record.closeReasons (r : Record) : CodeSet :=
  uncertifyingFlags r.axles ||| codeIf r.overflow codeAxleOverflow ||| codeIf r.calChanged codeCalChanged |||
    codeIf r.straddle.isSome flagStraddle

/-- A record closes: groups, mean speed, class, reason set, certification, state and close time (R116 to R118). -/
def Record.close (r : Record) (grp : Nat) (c : Cls) (now : Time) : Record :=
  let r := ({ r.grouped grp with meanSpeed := meanOfSpeeds r.axles } : Record).classed c
  { r with
    reasons := r.closeReasons
    certified := r.closeReasons = 0
    state := .complete
    closeTime := some now }

/-! ### Closing (R106, R108, R116 to R119) -/

/-- The record of a number closes, its lane counts it and its context becomes EMPTY (R118). -/
def State.closeRecord (s : State) (n : Lane) (number : Nat) : State :=
  let s := s.updVrt fun v =>
    let v := v.update number fun r => r.close s.par.grp s.cls s.siteTime
    { v with completed := v.completed ++ [number] }
  s.updLane n fun l => { l with ctx := .empty, recorded := bump l.recorded }

/-- The vehicle in progress of a lane closes, recorded (R116 to R118) or unrecorded (R111). -/
def State.closeVehicle (s : State) (n : Lane) : State :=
  match s.vau.lane[n].ctx with
  | .empty => s
  | .linked number _ => s.closeRecord n number
  | .unrecorded _ => s.updLane n fun l => { l with ctx := .empty }

/-! ### The close deadline (R107, R108) -/

/-- The close deadline after an axle (R107). -/
def State.deadline (s : State) (n : Lane) (t : Time) (v : Nat) : Time :=
  let p := s.par.lane[n]
  let run := (p.maxSp * 10 + s.cst.working.lane[n].spacing) * 16000 / v + 801
  after t (min run p.maxClose)

/-- A deadline already passed when it is set closes the vehicle within the same event (R108). -/
def State.closeIfPassed (s : State) (n : Lane) : State :=
  match s.vau.lane[n].ctx with
  | .linked _ p | .unrecorded p => if passed p.deadline s.siteTime then s.closeVehicle n else s
  | .empty => s

/-- The context fields after an axle (R103, R107). -/
def State.progressAfter (s : State) (a : WeighedAxle) : Progress :=
  { lastTime := a.entry.time, vLast := a.entry.speed, deadline := s.deadline a.lane a.entry.time a.entry.speed }

/-! ### Appending (R114, R115) -/

/-- An axle is appended to an OPEN record (R114 steps 1 to 5, R115); `sp` is its spacing from the axle before it and
`counter` the calibration counter as it stands. -/
def Record.append (r : Record) (a : WeighedAxle) (sp counter : Nat) : Record :=
  let listed : Bool := r.axles.length < Config.listedMax
  { r with
    count := min (r.count + 1) Config.axleCountMax
    axles := if listed then r.axles ++ [a.entry] else r.axles
    overflow := r.overflow || !listed
    spacings := if listed && !r.axles.isEmpty then r.spacings ++ [sp] else r.spacings
    gross := if listed then r.gross + a.entry.load else r.gross
    lastTime := a.entry.time
    calChanged := r.calChanged || counter ≠ r.calCounter
    straddle := if r.straddle.isSome then r.straddle else a.straddle }

/-- An axle joins the vehicle whose record has this number: append, context, deadline (R114, R115, R107, R108). -/
def State.appendAxle (s : State) (number : Nat) (a : WeighedAxle) (sp : Nat) : State :=
  let s := s.updVrt fun v => v.update number fun r => r.append a sp s.cst.counter
  let s := s.updLane a.lane fun l => { l with ctx := .linked number (s.progressAfter a) }
  s.closeIfPassed a.lane

/-- An axle is followed without a record (R111). -/
def State.followAxle (s : State) (a : WeighedAxle) : State :=
  (s.updLane a.lane fun l => { l with ctx := .unrecorded (s.progressAfter a) }).closeIfPassed a.lane

/-! ### Opening (R109 to R113) -/

/-- The first unheld record of the completion-order list (R109). -/
def Vrt.evictable (v : Vrt) : Option Record :=
  (v.completed.filterMap v.find).find? fun r => !r.held

/-- Eviction: an unread record is counted in its own lane; the record leaves both lists (R110). -/
def State.evict (s : State) (r : Record) : State :=
  let s := if r.unread then s.updLane r.lane fun l => { l with evicted := bump l.evicted } else s
  s.updVrt fun v => v.free r.number

/-- A table entry for an opening: a FREE one, one by eviction, or none (R109). -/
def State.acquire (s : State) : Option State :=
  if s.vrt.live.length < Config.tableSize then some s
  else s.vrt.evictable.map s.evict

/-- A record as the VAU opens it, before its first axle is appended (R113). -/
def Record.opening (number : Nat) (a : WeighedAxle) (lane : LaneTemp) (counter : Nat) : Record :=
  { number := number, lane := a.lane, state := .opened, held := false, unread := true, tag := none, straddle := none
    count := 0, overflow := false, calChanged := false, axles := [], spacings := [], groups := [], gross := 0
    meanSpeed := 0, classCode := 0, generation := 0, firstTime := a.entry.time, lastTime := a.entry.time
    closeTime := none, laneTemp := lane.tl, laneValidity := lane.validity, calCounter := counter, reasons := 0
    certified := false }

/-- A record is opened in an acquired entry and the opening axle is appended (R113). -/
def State.openRecord (s : State) (a : WeighedAxle) : State :=
  let number := s.vrt.nextFree
  let r := Record.opening number a s.ptu.lane[a.lane] s.cst.counter
  let s := s.updVrt fun v => { v with live := v.live ++ [r], counter := nextNumber number }
  s.appendAxle number a 0

/-- With no entry to be had the vehicle is followed unrecorded (R111). -/
def State.openUnrecorded (s : State) (a : WeighedAxle) : State :=
  let s := s.updLane a.lane fun l => { l with unrecorded := bump l.unrecorded }
  { s with cpt := { s.cpt with unrecordedLatch := true } }.followAxle a

/-- An axle that finds its context EMPTY opens a vehicle (R104, R109). -/
def State.openVehicle (s : State) (a : WeighedAxle) : State :=
  match s.acquire with
  | some s1 => s1.openRecord a
  | none => s.openUnrecorded a

/-! ### Axle arrival (R104 to R106) -/

/-- The spacing from the last axle of the vehicle in progress (R105). -/
def Progress.spacingTo (p : Progress) (a : WeighedAxle) : Nat := spacing p.lastTime p.vLast a.entry.time a.entry.speed

/-- The join test (R105). -/
def State.joins (s : State) (p : Progress) (a : WeighedAxle) : Bool :=
  let par := s.par.lane[a.lane]
  p.spacingTo a ≤ par.maxSp &&
    (max a.entry.speed p.vLast - min a.entry.speed p.vLast) * 100 ≤ par.spdTol * p.vLast

/-- An axle that does not join closes the vehicle and opens another (R106). -/
def State.closeAndOpen (s : State) (a : WeighedAxle) : State := (s.closeVehicle a.lane).openVehicle a

/-- The VAU takes a weighed axle (R104). -/
def State.axleArrival (s : State) (a : WeighedAxle) : State :=
  match s.vau.lane[a.lane].ctx with
  | .empty => s.openVehicle a
  | .linked number p => if s.joins p a then s.appendAxle number a (p.spacingTo a) else s.closeAndOpen a
  | .unrecorded p => if s.joins p a then s.followAxle a else s.closeAndOpen a

/-- The deadline of a context that is not EMPTY. -/
def Context.deadline? : Context → Option Time
  | .empty => none
  | .linked _ p | .unrecorded p => some p.deadline

/-- The last speed of a context that is not EMPTY (R71). -/
def Context.vLast? : Context → Option Nat
  | .empty => none
  | .linked _ p | .unrecorded p => some p.vLast

/-- Site time has passed the lane's close deadline (R108). -/
def State.closeDue (s : State) (n : Lane) : Bool :=
  match s.vau.lane[n].ctx.deadline? with
  | some t => passed t s.siteTime
  | none => false

/-- CLOSE_DEADLINE_EXPIRY (R108): the vehicle in progress closes with the site time of the expiry. -/
def execCloseDeadlineExpiry (n : Lane) (s : State) : Host.Outcome State Fault Refusal :=
  .next (if s.closeDue n then s.closeVehicle n else s)

end Sys2Proof.Machine
end

