-- ==== Sys2Proof/Machine/Apu.lean ====
section
/-! DEFINITION. Chapter 4: side buffers, row hits, the pairing queue, and the hand-over of axle candidates to the LCU and the
VAU within the same event (R78, R83). -/

namespace Sys2Proof.Machine

/-! ### Pulses that are close together (R61) -/

/-- Two midpoints lie within w tu of each other, in either direction. -/
def within (a b : Time) (w : Nat) : Bool := elapsed a b ≤ w || elapsed b a ≤ w

/-- The oldest waiting pulse of a buffer within w tu of a midpoint, and the buffer without it. -/
def takeWithin (mid : Time) (w : Nat) : List Waiting → Option (PulseRecord × List Waiting)
  | [] => none
  | x :: xs =>
    if within x.pulse.mid mid w then some (x.pulse, xs)
    else (takeWithin mid w xs).map fun (p, rest) => (p, x :: rest)

/-- The lone expiry time of a pulse (R60). -/
def loneExpiry (r : PulseRecord) (wLr : Nat) : Time := after r.mid (wLr + elapsed r.first r.last)

def State.setSide (s : State) (i : Strip) (w : List Waiting) : State :=
  { s with apu := { s.apu with side := upd s.apu.side i fun _ => w } }

def State.setQueue (s : State) (n : Lane) (q : List QueueEntry) : State :=
  { s with apu := { s.apu with queue := upd s.apu.queue n fun _ => q } }

/-! ### Row hits (R62 to R65) -/

/-- The hit time of two pulses: the earlier midpoint plus the floor of half the interval (R62). -/
def meanTime (a b : Time) : Time :=
  if inReach a b then after a (elapsed a b / 2) else after b (elapsed b a / 2)

/-- CLIPPED and LONG of a pulse (R62). -/
def PulseRecord.flags (r : PulseRecord) : CodeSet := codeIf r.clipped flagClipped ||| codeIf r.long flagLong

/-- A full row hit from a left and a right pulse of one lane (R62). -/
def RowHit.ofPair (l r : PulseRecord) : RowHit :=
  { lane := laneOf l.strip, row := rowOf l.strip, kind := .full, time := meanTime l.mid r.mid, left := some l
    right := some r, flags := l.flags ||| r.flags }

/-- A straddle row hit of lane b: lane b's L strip pulse is the right wheel, lane b + 1's R strip pulse the left (R64). -/
def RowHit.ofStraddle (own other : PulseRecord) : RowHit :=
  { lane := laneOf own.strip, row := rowOf own.strip, kind := .straddle, time := meanTime own.mid other.mid
    left := some other, right := some own, flags := flagStraddle ||| own.flags ||| other.flags }

/-- A half row hit with the flag that says why its other side is empty (R65). -/
def RowHit.ofLone (r : PulseRecord) (why : CodeSet) : RowHit :=
  { lane := laneOf r.strip, row := rowOf r.strip, kind := .half, time := r.mid
    left := if isLeft r.strip then some r else none
    right := if isLeft r.strip then none else some r
    flags := r.flags ||| why }

/-! ### Windows and patterns (R71, R74) -/

/-- Lower and upper bound of the full window (R71). -/
def fullLower (spacing : Nat) : Nat := (spacing * 16000 + 69443) / 69444

def fullUpper (spacing : Nat) : Nat := spacing * 16000 / 556

/-- The expected interval at a speed (R71, R76). -/
def expectedInterval (spacing vLast : Nat) : Nat := spacing * 16000 / vLast

/-- The window of an entry that enters the lane's queue now (R71). -/
def State.window (s : State) (n : Lane) : Nat × Nat :=
  let spacing := s.cst.working.lane[n].spacing
  match s.vau.lane[n].ctx.vLast? with
  | none => (fullLower spacing, fullUpper spacing)
  | some v =>
    let e := expectedInterval spacing v
    let tol := s.par.lane[n].spdTol
    (max (fullLower spacing) (e * (100 - tol) / 100), min (fullUpper spacing) (e * (100 + tol) / 100))

/-- The side pattern of a row hit in its lane (R74). -/
inductive SidePattern
  | full
  | leftHalf
  | rightHalf
  | straddle
  deriving DecidableEq, Repr

def RowHit.pattern (h : RowHit) : SidePattern :=
  match h.kind with
  | .full => .full
  | .straddle => .straddle
  | .half => if h.left.isSome then .leftHalf else .rightHalf

/-- The table of R74: upstream pattern, downstream pattern. -/
def compatible : SidePattern → SidePattern → Bool
  | .full, .full | .full, .leftHalf | .full, .rightHalf => true
  | .full, .straddle => false
  | .leftHalf, .full | .leftHalf, .leftHalf | .leftHalf, .straddle => true
  | .leftHalf, .rightHalf => false
  | .rightHalf, .full | .rightHalf, .rightHalf => true
  | .rightHalf, .leftHalf | .rightHalf, .straddle => false
  | .straddle, .full | .straddle, .leftHalf | .straddle, .straddle => true
  | .straddle, .rightHalf => false

/-- An entry takes its place by age, behind entries of its own hit time (R72). -/
def insertEntry (now : Time) (e : QueueEntry) : List QueueEntry → List QueueEntry
  | [] => [e]
  | q :: qs =>
    if elapsed q.hit.time now < elapsed e.hit.time now then e :: q :: qs else q :: insertEntry now e qs

/-- An entry meets both conditions of R75 for a downstream row hit. -/
def QueueEntry.accepts (e : QueueEntry) (d : RowHit) : Bool :=
  let delta := elapsed e.hit.time d.time
  inReach e.hit.time d.time && e.lower ≤ delta && delta ≤ e.upper && compatible e.hit.pattern d.pattern

/-- The entries ahead of the first that accepts a row hit, that entry, and those behind it. -/
def splitAtMatch (d : RowHit) : List QueueEntry → Option (List QueueEntry × QueueEntry × List QueueEntry)
  | [] => none
  | e :: es =>
    if e.accepts d then some ([], e, es)
    else (splitAtMatch d es).map fun (ahead, m, behind) => (e :: ahead, m, behind)

/-- Site time has passed the entry's hit time plus its upper bound (R72, R73). -/
def QueueEntry.expiredAt (e : QueueEntry) (now : Time) : Bool := passed (after e.hit.time e.upper) now

/-! ### Handing over (R75 to R78) -/

/-- A candidate is weighed and the VAU takes the axle, within the event (R78, R83). The weighing reads the service states as the
event's own contribution and miss reports have left them: R69 and R70 put the reports before the hand-over, and R83 does not say
whether its "as it stands" is before or after them (DEDUCED, log 31). -/
def State.handOver (s : State) (c : Candidate) : State := s.axleArrival (s.weigh c)

/-- The straddle boundary of a candidate: present when a row hit is a straddle, equal to the lane (R78). -/
def straddleOf (n : Lane) (hits : List RowHit) : Option Nat :=
  if hits.any fun h => h.kind = .straddle then some n.val else none

/-- The candidate of a two-row match (R75). -/
def Candidate.ofMatch (u d : RowHit) : Candidate :=
  { lane := u.lane, up := some u, down := some d, ref := u.time, delta := some (elapsed u.time d.time), borrowed := none
    straddle := straddleOf u.lane [u, d], flags := u.flags ||| d.flags }

/-- The flags of a one-row candidate (R76, R77). -/
def oneRowFlags (h : RowHit) : CodeSet := h.flags ||| flagBorrowedSpeed ||| flagSingleRow

/-- An upstream-only candidate (R77). -/
def Candidate.ofUpstream (u : RowHit) (vLast : Nat) : Candidate :=
  { lane := u.lane, up := some u, down := none, ref := u.time, delta := none, borrowed := some vLast
    straddle := straddleOf u.lane [u], flags := oneRowFlags u }

/-- A downstream-only candidate; its reference time is the expected interval before its hit time (R76). -/
def Candidate.ofDownstream (d : RowHit) (vLast spacing : Nat) : Candidate :=
  { lane := d.lane, up := none, down := some d, ref := d.time - BitVec.ofNat 32 (expectedInterval spacing vLast)
    delta := none, borrowed := some vLast, straddle := straddleOf d.lane [d], flags := oneRowFlags d }

/-- The misses that a resolution reports against the other row: both its strips, or the lane's L strip only for a straddle
(R76, R77). -/
def State.rowMisses (s : State) (n : Lane) (other : Row) (h : RowHit) (ref : Time) : State :=
  let s := s.missReport (leftStrip n other) ref
  if h.kind = .straddle then s else s.missReport (rightStrip n other) ref

/-- An orphan is counted (R81). -/
def State.orphan (s : State) (n : Lane) : State :=
  { s with apu := { s.apu with orphans := upd s.apu.orphans n bump } }

/-- An upstream entry that has left its queue resolves as an upstream-only axle or an orphan (R77). -/
def State.upstreamOnly (s : State) (n : Lane) (e : QueueEntry) : State :=
  let s := s.rowMisses n .down e.hit e.hit.time
  match s.vau.lane[n].ctx.vLast? with
  | some v => s.handOver (Candidate.ofUpstream e.hit v)
  | none => s.orphan n

/-- An unmatched downstream row hit (R76). -/
def State.downstreamOnly (s : State) (n : Lane) (d : RowHit) : State :=
  let s := s.rowMisses n .up d d.time
  match s.vau.lane[n].ctx.vLast? with
  | some v => s.handOver (Candidate.ofDownstream d v s.cst.working.lane[n].spacing)
  | none => s.orphan n

/-- An upstream row hit enters its lane's queue; already expired or overflowing, an entry resolves at once (R72). -/
def State.enterQueue (s : State) (h : RowHit) : State :=
  let n := h.lane
  let w := s.window n
  let e : QueueEntry := { hit := h, lower := w.1, upper := w.2 }
  if e.expiredAt s.siteTime then s.upstreamOnly n e
  else
    match insertEntry s.siteTime e s.apu.queue[n] with
    | oldest :: rest =>
      if Config.bufferSize < rest.length + 1 then (s.setQueue n rest).upstreamOnly n oldest
      else s.setQueue n (oldest :: rest)
    | [] => s

/-- A downstream row hit is matched at once (R75) or resolves without a partner (R76). -/
def State.matchDownstream (s : State) (d : RowHit) : State :=
  let n := d.lane
  match splitAtMatch d s.apu.queue[n] with
  | some (ahead, e, behind) =>
    let s := ahead.foldl (fun s a => s.upstreamOnly n a) (s.setQueue n behind)
    s.handOver (Candidate.ofMatch e.hit d)
  | none => s.downstreamOnly n d

/-- A row hit goes to its lane's queue or is matched downstream. -/
def State.routeHit (s : State) (h : RowHit) : State :=
  match h.row with
  | .up => s.enterQueue h
  | .down => s.matchDownstream h

/-! ### Resolution of a pulse (R61 to R66) -/

/-- Two pulses form a row hit: each reports a contribution, then the hit goes on (R62, R64, R69). -/
def State.pairHit (s : State) (a b : PulseRecord) (h : RowHit) : State :=
  ((s.contribution a.strip).contribution b.strip).routeHit h

/-- Why the other side of a lone pulse is empty (R65). -/
def State.loneReason (s : State) (r : PulseRecord) : CodeSet :=
  let p := partnerOf r.strip
  if !s.shu[p].state.delivers then flagStripOut
  else if s.scu[p].disturbedAt r.mid then flagTestDisturbed
  else flagHalfAxle

/-- A lone pulse forms a half row hit; with HALF_AXLE the partner strip receives a miss (R65, R69, R70). -/
def State.halfHit (s : State) (r : PulseRecord) : State :=
  let why := s.loneReason r
  let s := s.contribution r.strip
  let s := if why = flagHalfAxle then s.missReport (partnerOf r.strip) r.mid else s
  s.routeHit (RowHit.ofLone r why)

/-- The strip across the boundary that a lone pulse may straddle, with the boundary (R63): for lane b's L strip lane b + 1's
R strip of the same row, and the reverse. -/
def straddlePartner (i : Strip) : Option (Boundary × Strip) :=
  if hl : i.val % 2 = 0 then
    if h : i.val / 4 < 3 then some (⟨i.val / 4, h⟩, ⟨i.val + 5, by omega⟩) else none
  else if h : 0 < i.val / 4 then some (⟨i.val / 4 - 1, by omega⟩, ⟨i.val - 5, by omega⟩)
  else none

/-- A waiting pulse that has left its buffer resolves as lone: a straddle row hit or a half row hit (R63). -/
def State.resolveLone (s : State) (r : PulseRecord) : State :=
  match straddlePartner r.strip with
  | none => s.halfHit r
  | some (b, j) =>
    if s.par.straddleEn[b] then
      match takeWithin r.mid s.par.lane[b.castSucc].wLr s.apu.side[j] with
      | some (q, rest) =>
        let h := if isLeft r.strip then RowHit.ofStraddle r q else RowHit.ofStraddle q r
        (s.setSide j rest).pairHit r q h
      | none => s.halfHit r
    else s.halfHit r

/-- A pulse without a partner joins its buffer; a fifth forces the head to resolve as lone (R61, R66). A pulse whose lone expiry
time site time has already reached joins all the same, and its LONE_EXPIRY is then due as an event of its own: R60 to R66 do not
settle the case at the joining as R72 does for a queue entry (DESIGN CHOICE, log 30). -/
def State.waitSide (s : State) (r : PulseRecord) : State :=
  let w : Waiting := { pulse := r, expiry := loneExpiry r s.par.lane[laneOf r.strip].wLr }
  match s.apu.side[r.strip] ++ [w] with
  | head :: rest =>
    if Config.bufferSize < rest.length + 1 then (s.setSide r.strip rest).resolveLone head.pulse
    else s.setSide r.strip (head :: rest)
  | [] => s

/-- A pulse arrives at the APU (R61). -/
def State.pulseArrives (s : State) (r : PulseRecord) : State :=
  let j := partnerOf r.strip
  match takeWithin r.mid s.par.lane[laneOf r.strip].wLr s.apu.side[j] with
  | some (q, rest) =>
    let h := if isLeft r.strip then RowHit.ofPair r q else RowHit.ofPair q r
    (s.setSide j rest).pairHit r q h
  | none => s.waitSide r

/-- The oldest record of a strip in transit, and the transit without it (log 5). -/
def takeTransit (i : Strip) : List PulseRecord → Option (PulseRecord × List PulseRecord)
  | [] => none
  | r :: rs => if r.strip = i then some (r, rs) else (takeTransit i rs).map fun (p, rest) => (p, r :: rest)

/-- PULSE_ARRIVAL (R61): the strip's oldest delivered record reaches the APU. -/
def execPulseArrival (i : Strip) (s : State) : Host.Outcome State Fault Refusal :=
  .next
    (match takeTransit i s.apu.transit with
    | some (r, rest) => { s with apu := { s.apu with transit := rest } }.pulseArrives r
    | none => s)

/-- LONE_EXPIRY (R63): the k-th waiting pulse of the strip has reached its lone expiry, be it already when it joined (log 30). -/
def execLoneExpiry (i : Strip) (k : Fin 4) (s : State) : Host.Outcome State Fault Refusal :=
  .next
    (match s.apu.side[i][k.val]? with
    | some w =>
      if reached w.expiry s.siteTime then (s.setSide i (s.apu.side[i].eraseIdx k.val)).resolveLone w.pulse else s
    | none => s)

/-- ENTRY_EXPIRY (R73): site time has passed the upper bound of the lane's k-th entry. -/
def execEntryExpiry (n : Lane) (k : Fin 4) (s : State) : Host.Outcome State Fault Refusal :=
  .next
    (match s.apu.queue[n][k.val]? with
    | some e =>
      if e.expiredAt s.siteTime then (s.setQueue n (s.apu.queue[n].eraseIdx k.val)).upstreamOnly n e else s
    | none => s)

end Sys2Proof.Machine
end

