-- ==== Sys2Proof/Decode.lean ====
section
/-! DEFINITION. The two readings of bits into commands: `decodeTableWord`, over the rows of spec/opcode_table.json that give
bits (none does), and the command frames of the SPI link (R199 to R202, R204, R207) with their encoder and their CRC-8. -/

namespace Sys2Proof

/-- No row of spec/opcode_table.json gives bits, so no word spells a command (log 25). -/
def decodeTableWord (_nbits _w : Nat) : Option Instr := none

/-- One shift of the CRC-8 register, generator 07h (R201). -/
def crc8Shift (r : Byte) : Byte := if r.msb then (r <<< 1) ^^^ 0x07 else r <<< 1

/-- One byte into the CRC-8 register (R201). -/
def crc8Byte (r b : Byte) : Byte := Nat.repeat crc8Shift 8 (r ^^^ b)

/-- The CRC-8 of a byte string, initial value FFh (R201). -/
def crc8 (bytes : List Byte) : Byte := bytes.foldl crc8Byte 0xFF

/-- The identifier of a parameter in R207's table. -/
def Param.id : Param → Byte
  | .tOn => 0x01
  | .tOff => 0x02
  | .nb => 0x03
  | .noiseLim => 0x04
  | .azl => 0x05
  | .azTol => 0x06
  | .azStep => 0x07
  | .enable => 0x08
  | .wLr => 0x10
  | .straddleEn => 0x11
  | .spdtol => 0x12
  | .maxsp => 0x13
  | .maxclose => 0x14
  | .grp => 0x15
  | .rdt => 0x16
  | .probeMap => 0x20
  | .probeEn => 0x21
  | .tempHold => 0x22
  | .hotTo => 0x23
  | .hotTh => 0x24
  | .hotMode => 0x25
  | .coldTo => 0x26
  | .coldTh => 0x27
  | .coldMode => 0x28
  | .slotLen n => 0x30 + BitVec.ofNat 8 n.val
  | .slotRule n => 0x34 + BitVec.ofNat 8 n.val
  | .testLimit => 0x38
  | .testPeriod => 0x39
  | .missLim => 0x3A
  | .holdoff => 0x3B
  | .attnMask => 0x40

/-- The parameter that an identifier names, if R207's table holds it. -/
def Param.ofId : Byte → Option Param
  | 0x01 => some .tOn
  | 0x02 => some .tOff
  | 0x03 => some .nb
  | 0x04 => some .noiseLim
  | 0x05 => some .azl
  | 0x06 => some .azTol
  | 0x07 => some .azStep
  | 0x08 => some .enable
  | 0x10 => some .wLr
  | 0x11 => some .straddleEn
  | 0x12 => some .spdtol
  | 0x13 => some .maxsp
  | 0x14 => some .maxclose
  | 0x15 => some .grp
  | 0x16 => some .rdt
  | 0x20 => some .probeMap
  | 0x21 => some .probeEn
  | 0x22 => some .tempHold
  | 0x23 => some .hotTo
  | 0x24 => some .hotTh
  | 0x25 => some .hotMode
  | 0x26 => some .coldTo
  | 0x27 => some .coldTh
  | 0x28 => some .coldMode
  | 0x30 => some (.slotLen 0)
  | 0x31 => some (.slotLen 1)
  | 0x32 => some (.slotLen 2)
  | 0x33 => some (.slotLen 3)
  | 0x34 => some (.slotRule 0)
  | 0x35 => some (.slotRule 1)
  | 0x36 => some (.slotRule 2)
  | 0x37 => some (.slotRule 3)
  | 0x38 => some .testLimit
  | 0x39 => some .testPeriod
  | 0x3A => some .missLim
  | 0x3B => some .holdoff
  | 0x40 => some .attnMask
  | _ => none

/-- The PARAM_WRITE row of a parameter. -/
def Param.command (p : Param) (x : Xfer) (rest : List Byte) : Instr :=
  match p with
  | .tOn => .tOn x rest
  | .tOff => .tOff x rest
  | .nb => .nb x rest
  | .noiseLim => .noiseLim x rest
  | .azl => .azl x rest
  | .azTol => .azTol x rest
  | .azStep => .azStep x rest
  | .enable => .enable x rest
  | .wLr => .wLr x rest
  | .straddleEn => .straddleEn x rest
  | .spdtol => .spdtol x rest
  | .maxsp => .maxsp x rest
  | .maxclose => .maxclose x rest
  | .grp => .grp x rest
  | .rdt => .rdt x rest
  | .probeMap => .probeMap x rest
  | .probeEn => .probeEn x rest
  | .tempHold => .tempHold x rest
  | .hotTo => .hotTo x rest
  | .hotTh => .hotTh x rest
  | .hotMode => .hotMode x rest
  | .coldTo => .coldTo x rest
  | .coldTh => .coldTh x rest
  | .coldMode => .coldMode x rest
  | .testLimit => .testLimit x rest
  | .testPeriod => .testPeriod x rest
  | .missLim => .missLim x rest
  | .holdoff => .holdoff x rest
  | .attnMask => .attnMask x rest
  | .slotLen n => .slotLen n x rest
  | .slotRule n => .slotRule n x rest

/-- Command code of PARAM_WRITE (R204). -/
abbrev paramWriteCode : Byte := 0x02

/-- The command that a code and a payload name, by R204's command table, NOP's two payloads (R202) and R207's identifiers;
none for an unknown code and for a PARAM_WRITE whose payload names no parameter. -/
def commandOf (x : Xfer) (code : Byte) (payload : List Byte) : Option Instr :=
  match code with
  | 0x00 => some (if payload = [0x01] then .nopRepeat x else .nop x payload)
  | 0x02 =>
    match payload with
    | [] => none
    | ident :: rest => (Param.ofId ident).map fun p => p.command x rest
  | 0x01 => some (.status x payload)
  | 0x03 => some (.paramRead x payload)
  | 0x04 => some (.counterRead x payload)
  | 0x05 => some (.sync x payload)
  | 0x06 => some (.syncRead x payload)
  | 0x07 => some (.trafficReset x payload)
  | 0x10 => some (.recList x payload)
  | 0x11 => some (.recHead x payload)
  | 0x12 => some (.recAxles x payload)
  | 0x13 => some (.recHold x payload)
  | 0x14 => some (.recRelease x payload)
  | 0x15 => some (.recTag x payload)
  | 0x16 => some (.recClose x payload)
  | 0x17 => some (.recRetire x payload)
  | 0x18 => some (.recMerge x payload)
  | 0x19 => some (.recSplit x payload)
  | 0x1A => some (.recReclass x payload)
  | 0x20 => some (.classWrite x payload)
  | 0x21 => some (.classClear x payload)
  | 0x22 => some (.classRead x payload)
  | 0x23 => some (.classSwap x payload)
  | 0x28 => some (.stripRemove x payload)
  | 0x29 => some (.stripRestore x payload)
  | 0x2A => some (.stripTest x payload)
  | 0x2B => some (.stripStatus x payload)
  | 0x2C => some (.tempStatus x payload)
  | 0x30 => some (.calWrite x payload)
  | 0x31 => some (.calLoad x payload)
  | 0x32 => some (.calRead x payload)
  | 0x33 => some (.calCommit x payload)
  | 0x34 => some (.trimSet x payload)
  | 0x35 => some (.trimStep x payload)
  | _ => none

/-- What is wrong with a command frame that reaches no block (R202), or reaches none that its parameter names (R207). -/
inductive FrameError
  | length
  | crc
  | code
  | param
  deriving DecidableEq, Repr

/-- A transaction's bytes as the command port reads them: a sound frame of a command, or an error with the echoed code. -/
inductive Frame
  | sound (i : Instr)
  | bad (e : FrameError) (echo : Byte)
  deriving DecidableEq, Repr

/-- The frame checks of R202 in their order: length, CRC-8, command code; then the identifier of a PARAM_WRITE (R207). -/
def readFrame : List Byte → Frame
  | addr :: code :: len :: body =>
    if body.length < len.toNat + 1 then .bad .length code
    else if crc8 (addr :: code :: len :: body.take len.toNat) ≠ body.getD len.toNat 0 then .bad .crc code
    else
      match commandOf ⟨addr, body.drop (len.toNat + 1)⟩ code (body.take len.toNat) with
      | some i => .sound i
      | none => .bad (if code = paramWriteCode then .param else .code) code
  | [_, code] => .bad .length code
  | _ => .bad .length 0

/-- The command that the bytes of a transaction are: a known command's own row, or UNKNOWN_CMD (R202). -/
def decodeFrame (bytes : List Byte) : Instr :=
  match readFrame bytes with
  | .sound i => i
  | .bad _ _ => .unknownCmd bytes

/-- The bytes of a command frame with its filler (R200). -/
def frameBytes (x : Xfer) (code : Byte) (payload : List Byte) : List Byte :=
  let head := x.addr :: code :: BitVec.ofNat 8 payload.length :: payload
  head ++ crc8 head :: x.filler

/-- The frame of a host command: its transaction parts, code and payload; none for an event that is no transaction and for
UNKNOWN_CMD, whose bytes stand for themselves. -/
def Instr.frameParts : Instr → Option (Xfer × Byte × List Byte)
  | .sample _ _ => none
  | .normalEnd _ _ => none
  | .longCut _ _ => none
  | .standingEnd _ _ => none
  | .settlingEnd _ _ => none
  | .autoZeroStep _ => none
  | .pinnedTimerExpiry _ => none
  | .standingTimerExpiry _ => none
  | .noiseWindowEnd _ => none
  | .pulseArrival _ => none
  | .loneExpiry _ _ => none
  | .entryExpiry _ _ => none
  | .closeDeadlineExpiry _ => none
  | .slotBoundary _ => none
  | .periodicTimerExpiry _ => none
  | .holdTimerExpiry _ => none
  | .holdoffExpiry _ => none
  | .storeCompletion _ => none
  | .switchPositionTaken => none
  | .deviceReset _ _ => none
  | .loadCompletion => none
  | .unknownCmd _ => none
  | .calswInputChange _ => none
  | .nopRepeat x => some (x, 0x00, [0x01])
  | .nop x payload => some (x, 0x00, payload)
  | .status x payload => some (x, 0x01, payload)
  | .paramRead x payload => some (x, 0x03, payload)
  | .counterRead x payload => some (x, 0x04, payload)
  | .sync x payload => some (x, 0x05, payload)
  | .syncRead x payload => some (x, 0x06, payload)
  | .trafficReset x payload => some (x, 0x07, payload)
  | .recList x payload => some (x, 0x10, payload)
  | .recHead x payload => some (x, 0x11, payload)
  | .recAxles x payload => some (x, 0x12, payload)
  | .recHold x payload => some (x, 0x13, payload)
  | .recRelease x payload => some (x, 0x14, payload)
  | .recTag x payload => some (x, 0x15, payload)
  | .recClose x payload => some (x, 0x16, payload)
  | .recRetire x payload => some (x, 0x17, payload)
  | .recMerge x payload => some (x, 0x18, payload)
  | .recSplit x payload => some (x, 0x19, payload)
  | .recReclass x payload => some (x, 0x1A, payload)
  | .classWrite x payload => some (x, 0x20, payload)
  | .classClear x payload => some (x, 0x21, payload)
  | .classRead x payload => some (x, 0x22, payload)
  | .classSwap x payload => some (x, 0x23, payload)
  | .stripRemove x payload => some (x, 0x28, payload)
  | .stripRestore x payload => some (x, 0x29, payload)
  | .stripTest x payload => some (x, 0x2A, payload)
  | .stripStatus x payload => some (x, 0x2B, payload)
  | .tempStatus x payload => some (x, 0x2C, payload)
  | .calWrite x payload => some (x, 0x30, payload)
  | .calLoad x payload => some (x, 0x31, payload)
  | .calRead x payload => some (x, 0x32, payload)
  | .calCommit x payload => some (x, 0x33, payload)
  | .trimSet x payload => some (x, 0x34, payload)
  | .trimStep x payload => some (x, 0x35, payload)
  | .tOn x rest => some (x, paramWriteCode, Param.id .tOn :: rest)
  | .tOff x rest => some (x, paramWriteCode, Param.id .tOff :: rest)
  | .nb x rest => some (x, paramWriteCode, Param.id .nb :: rest)
  | .noiseLim x rest => some (x, paramWriteCode, Param.id .noiseLim :: rest)
  | .azl x rest => some (x, paramWriteCode, Param.id .azl :: rest)
  | .azTol x rest => some (x, paramWriteCode, Param.id .azTol :: rest)
  | .azStep x rest => some (x, paramWriteCode, Param.id .azStep :: rest)
  | .enable x rest => some (x, paramWriteCode, Param.id .enable :: rest)
  | .wLr x rest => some (x, paramWriteCode, Param.id .wLr :: rest)
  | .straddleEn x rest => some (x, paramWriteCode, Param.id .straddleEn :: rest)
  | .spdtol x rest => some (x, paramWriteCode, Param.id .spdtol :: rest)
  | .maxsp x rest => some (x, paramWriteCode, Param.id .maxsp :: rest)
  | .maxclose x rest => some (x, paramWriteCode, Param.id .maxclose :: rest)
  | .grp x rest => some (x, paramWriteCode, Param.id .grp :: rest)
  | .rdt x rest => some (x, paramWriteCode, Param.id .rdt :: rest)
  | .probeMap x rest => some (x, paramWriteCode, Param.id .probeMap :: rest)
  | .probeEn x rest => some (x, paramWriteCode, Param.id .probeEn :: rest)
  | .tempHold x rest => some (x, paramWriteCode, Param.id .tempHold :: rest)
  | .hotTo x rest => some (x, paramWriteCode, Param.id .hotTo :: rest)
  | .hotTh x rest => some (x, paramWriteCode, Param.id .hotTh :: rest)
  | .hotMode x rest => some (x, paramWriteCode, Param.id .hotMode :: rest)
  | .coldTo x rest => some (x, paramWriteCode, Param.id .coldTo :: rest)
  | .coldTh x rest => some (x, paramWriteCode, Param.id .coldTh :: rest)
  | .coldMode x rest => some (x, paramWriteCode, Param.id .coldMode :: rest)
  | .testLimit x rest => some (x, paramWriteCode, Param.id .testLimit :: rest)
  | .testPeriod x rest => some (x, paramWriteCode, Param.id .testPeriod :: rest)
  | .missLim x rest => some (x, paramWriteCode, Param.id .missLim :: rest)
  | .holdoff x rest => some (x, paramWriteCode, Param.id .holdoff :: rest)
  | .attnMask x rest => some (x, paramWriteCode, Param.id .attnMask :: rest)
  | .slotLen n x rest => some (x, paramWriteCode, Param.id (.slotLen n) :: rest)
  | .slotRule n x rest => some (x, paramWriteCode, Param.id (.slotRule n) :: rest)

/-- The bytes of the transaction that carries a command (R200); none for an event that is no transaction. -/
def encodeFrame (i : Instr) : Option (List Byte) :=
  match i with
  | .unknownCmd bytes => some bytes
  | i => i.frameParts.map fun (x, code, payload) => frameBytes x code payload

end Sys2Proof
end

