-- ==== Sys2Proof/Machine/Port.lean ====
section
/-! DEFINITION. Chapter 11, sections 11.1 to 11.3: who takes a transaction, what the node drives on MISO, how a command's reply
becomes the pending response, and the attention causes. -/

namespace Sys2Proof.Machine

/-! ### Replies -/

/-- An accepted command's reply. -/
def Reply.ok (payload : List Byte) : Reply := { status := .ok, payload := payload }

/-- A refused command's reply: its status code with an empty payload. -/
def Reply.refuse (st : Status) : Reply := { status := st, payload := [] }

/-- A refused command changes nothing. -/
def refuse (st : Status) (s : State) : Reply × State := (Reply.refuse st, s)

/-- An accepted command's reply and new state. -/
def accept (payload : List Byte) (s : State) : Reply × State := (Reply.ok payload, s)

/-- A command whose payload must be empty (R153, R155, R188, R206, R209, R210, R211). -/
def whenEmpty (p : List Byte) (s : State) (run : Reply × State) : Reply × State :=
  if p = [] then run else refuse .badValue s

/-! ### Transactions -/

/-- Who takes a transaction (R199, R203). -/
inductive Taker
  | addressed
  | broadcast
  | nobody
  deriving DecidableEq, Repr

/-- The address byte decides (R199); until the load completion every transaction is for no node (R203). A transaction is judged
as a whole at its end, so one that is under way at the load completion is taken if the load is complete when CS rises: R203 does
not say which side of the load it falls on (DESIGN CHOICE, log 32). -/
def State.taker (s : State) (addr : Byte) : Taker :=
  if !s.loaded || addr &&& 0x7C ≠ 0 then .nobody
  else if addr.msb then .broadcast
  else if addr.setWidth 2 = s.cpt.node then .addressed
  else .nobody

/-- The response frame from the status code to its CRC-8 (R200, R201). -/
def Response.frame (r : Response) : List Byte :=
  let body := r.status.code :: r.echo :: byte r.payload.length :: r.payload
  body ++ [crc8 body]

/-- What the addressed node drives in a transaction of n bytes: from the second byte on, its response frame and then FFh; a
shorter transaction cuts the frame (R200). -/
def Response.driven (r : Response) (n : Nat) : List Byte := (r.frame ++ List.replicate n 0xFF).take (n - 1)

/-- MISO in a transaction of n bytes that addresses the node. -/
def State.drive (s : State) (n : Nat) : State := { s with cpt := { s.cpt with miso := s.cpt.resp.driven n } }

/-- MISO in a transaction that the node does not drive (R199). -/
def State.release (s : State) : State := { s with cpt := { s.cpt with miso := [] } }

/-- The pending response is replaced (R202). -/
def State.respond (s : State) (code : Byte) (r : Reply) : State :=
  { s with cpt := { s.cpt with resp := { status := r.status, echo := code, payload := r.payload } } }

/-- A sound command frame of the given code (R202, R203). An addressed one is taken and its reply becomes the pending response;
a broadcast one is taken by the three commands that may be broadcast and earns no response; any other is ignored. -/
def hostCommand (code : Byte) (mayBroadcast : Bool) (x : Xfer) (payload : List Byte) (run : State → Reply × State)
    (s : State) : State :=
  match s.taker x.addr with
  | .addressed =>
    let (reply, s1) := run (s.drive (payload.length + 4 + x.filler.length))
    s1.respond code reply
  | .broadcast => if mayBroadcast then (run s.release).2 else s.release
  | .nobody => s.release

/-- A host command that may not be broadcast. -/
def addressedCommand (code : Byte) (x : Xfer) (payload : List Byte) (run : List Byte → State → Reply × State) (s : State) :
    Host.Outcome State Fault Refusal :=
  .next (hostCommand code false x payload (run payload) s)

/-! ### Attention (R205) -/

/-- RECORD_READY: an unread COMPLETE record exists (R126). -/
def Vrt.recordReady (v : Vrt) : Bool := v.live.any fun r => r.state = .complete && r.unread

/-- TEMP_EVENT: some event of the PTU is latched (R39). -/
def Ptu.eventLatched (p : Ptu) : Bool :=
  p.probe.toList.any fun u => u.hot.event || u.cold.event || u.faultEvent

/-- STRIP_EVENT: some strip has a mark set (R177). -/
def State.stripEvent (s : State) : Bool := s.shu.toList.any fun h => h.leftService || h.changed

/-- The causes standing, one bit each (R205). -/
def State.causes (s : State) : Byte :=
  byte (bit 1 s.vrt.recordReady + bit 2 s.ptu.eventLatched + bit 4 s.stripEvent + bit 8 s.cpt.calEvent +
    bit 16 s.cpt.unrecordedLatch + bit 32 s.cpt.scheduleShort)

/-- The attention line is pulled low: some unmasked cause stands (R205). -/
def State.attn (s : State) : Bool := s.causes &&& ~~~ s.par.attnMask ≠ 0

end Sys2Proof.Machine
end

