-- ==== Sys2Proof/Machine/Cls.lean ====
section
/-! DEFINITION. Chapter 8: the rule image and the four class table commands. -/

namespace Sys2Proof.Machine

/-! ### The rule image (section 8.2), at its place in a CLASS_WRITE payload: one byte behind the rule index -/

/-- The numbers of spacing windows and of group sizes that a CLASS_WRITE payload carries. -/
def imageW (p : List Byte) : Nat := u8 p 13

def imageP (p : List Byte) : Nat := u8 p 14

def imageWindows (p : List Byte) : List (Nat × Nat) :=
  (List.range (imageW p)).map fun j => (u16 p (15 + 4 * j), u16 p (17 + 4 * j))

def imageSizes (p : List Byte) : List Nat := (List.range (imageP p)).map fun j => u8 p (15 + 4 * imageW p + j)

/-- The checks of R152 in their order; they all refuse BAD_VALUE. -/
def classWriteValid (p : List Byte) : Bool :=
  let flags := p.getD 1 0
  15 ≤ p.length && p.length = 15 + 4 * imageW p + imageP p &&
    u8 p 0 ≤ 31 &&
    flags &&& 0xF0 = 0 &&
    (1 ≤ u8 p 2 && u8 p 2 ≤ 63) &&
    (1 ≤ u8 p 3 && u8 p 3 ≤ 31 && 1 ≤ u8 p 4 && u8 p 4 ≤ 31 && u8 p 3 ≤ u8 p 4) &&
    !(flags.getLsbD 2 && flags.getLsbD 3 && u32 p 9 < u32 p 5) &&
    (imageW p ≤ 11 && (imageWindows p).all fun (lo, hi) => lo ≤ hi) &&
    (imageP p ≤ 12 && ((imageSizes p).all fun k => 1 ≤ k && k ≤ 12) && (imageSizes p).sum ≤ 12)

/-- The rule that a CLASS_WRITE payload carries; an absent gross bound's bytes are ignored (R151). -/
def imageRule (p : List Byte) : ClassRule :=
  let flags := p.getD 1 0
  { valid := flags.getLsbD 0
    code := u8 p 2
    axMin := u8 p 3
    axMax := u8 p 4
    grossMin := if flags.getLsbD 2 then some (u32 p 5) else none
    grossMax := if flags.getLsbD 3 then some (u32 p 9) else none
    straddle := flags.getLsbD 1
    windows := imageWindows p
    pattern := if imageP p = 0 then none else some (imageSizes p) }

/-- The image of a rule (section 8.2). -/
def ClassRule.image (r : ClassRule) : List Byte :=
  let sizes := r.pattern.getD []
  [byte (bit 1 r.valid + bit 2 r.straddle + bit 4 r.grossMin.isSome + bit 8 r.grossMax.isSome), byte r.code, byte r.axMin,
    byte r.axMax] ++ bytes4 (r.grossMin.getD 0) ++ bytes4 (r.grossMax.getD 0) ++
    [byte r.windows.length, byte sizes.length] ++ (r.windows.flatMap fun (lo, hi) => bytes2 lo ++ bytes2 hi) ++
    sizes.map byte

/-! ### The commands -/

def State.withCls (s : State) (c : Cls) : State := { s with cls := c }

/-- CLASS_WRITE (R151, R152). -/
def classWrite (p : List Byte) (s : State) : Reply × State :=
  match index 32 (u8 p 0) with
  | some i =>
    if classWriteValid p then
      accept (byte i.val :: bytes2 s.cls.generation)
        (s.withCls (s.cls.withShadow (upd s.cls.shadow i fun _ => imageRule p)))
    else refuse .badValue s
  | none => refuse .badValue s

/-- CLASS_CLEAR (R153). -/
def classClear (p : List Byte) (s : State) : Reply × State :=
  whenEmpty p s
    (accept (bytes2 s.cls.generation) (s.withCls (s.cls.withShadow (Vector.replicate 32 ClassRule.blank))))

/-- CLASS_READ (R154). -/
def classRead (p : List Byte) (s : State) : Reply × State :=
  match p with
  | [sel, idx] =>
    match index 32 idx.toNat with
    | some i =>
      if 1 < sel.toNat then refuse .badValue s
      else
        let bank := if sel = 0 then s.cls.active else s.cls.shadow
        accept ([sel, idx] ++ bytes2 s.cls.generation ++ bank[i].image) s
    | none => refuse .badValue s
  | _ => refuse .badValue s

/-- The swap: the marker names the other bank and the generation advances, 65535 to 0 (R155). -/
def Cls.swapped (c : Cls) : Cls := { c with active1 := !c.active1, generation := (c.generation + 1) % 65536 }

/-- CLASS_SWAP (R155). -/
def classSwap (p : List Byte) (s : State) : Reply × State :=
  whenEmpty p s (accept (bytes2 s.cls.swapped.generation) (s.withCls s.cls.swapped))

/-- CLASS_WRITE, code 20h. -/
def execClassWrite (x : Xfer) (p : List Byte) (s : State) : Host.Outcome State Fault Refusal :=
  addressedCommand 0x20 x p classWrite s

/-- CLASS_CLEAR, code 21h. -/
def execClassClear (x : Xfer) (p : List Byte) (s : State) : Host.Outcome State Fault Refusal :=
  addressedCommand 0x21 x p classClear s

/-- CLASS_READ, code 22h. -/
def execClassRead (x : Xfer) (p : List Byte) (s : State) : Host.Outcome State Fault Refusal :=
  addressedCommand 0x22 x p classRead s

/-- CLASS_SWAP, code 23h. -/
def execClassSwap (x : Xfer) (p : List Byte) (s : State) : Host.Outcome State Fault Refusal :=
  addressedCommand 0x23 x p classSwap s

end Sys2Proof.Machine
end

