-- ==== Sys2Proof/Machine/Ptu.lean ====
section
/-! DEFINITION. Chapter 2: probe readings, the filter, lane temperatures, alarm units, and the hold timer. -/

namespace Sys2Proof.Machine

/-! ### Alarm units (R36 to R38) -/

/-- The mode a HOT unit runs in (R36). -/
def Alarm.hotMode (a : Alarm) : AlarmMode := if a.trip ≤ a.hyst then .comparator else a.mode

/-- The mode a COLD unit runs in (R36). -/
def Alarm.coldMode (a : Alarm) : AlarmMode := if a.hyst ≤ a.trip then .comparator else a.mode

/-- A unit in a mode, told whether F is beyond its trip limit and whether it is back beyond its hysteresis limit (R37,
R38). -/
def Alarm.evaluate (a : Alarm) (mode : AlarmMode) (beyond back : Bool) : Alarm :=
  match mode with
  | .comparator => if beyond then { a with event := true } else a
  | .twoEvent =>
    if a.tripped then (if back then { a with tripped := false, event := true } else a)
    else if beyond then { a with tripped := true, event := true } else a
  | .oneEvent =>
    if a.tripped then (if back then { a with tripped := false } else a)
    else if beyond then { a with tripped := true, event := true } else a

/-- The HOT unit evaluates a new F (R37). -/
def Alarm.hotEval (a : Alarm) (f : Int) : Alarm := a.evaluate a.hotMode (f > a.trip) (f < a.hyst)

/-- The COLD unit evaluates a new F (R38). -/
def Alarm.coldEval (a : Alarm) (f : Int) : Alarm := a.evaluate a.coldMode (f < a.trip) (f > a.hyst)

/-! ### Lane temperature (R32, R33) -/

/-- The F values of the VALID probes, P0 first. -/
def Ptu.validF (p : Ptu) : List Int :=
  p.probe.toList.filterMap fun u => if u.state = .valid then some u.filt else none

/-- A lane that finds no probe VALID (R33). -/
def LaneTemp.lose (l : LaneTemp) (tempHold : Nat) (now : Time) : LaneTemp :=
  match l.validity with
  | .valid =>
    if 0 < tempHold then
      { l with source := .none, validity := .held, holdDue := some (after now (tempHold * 16000)) }
    else { l with source := .none, validity := .invalid }
  | _ => l

/-- A lane recomputes its TL from its mapped probe, from the mean of the VALID probes, or by R33 (R32). -/
def LaneTemp.recompute (l : LaneTemp) (p : Ptu) (map : Probe) (tempHold : Nat) (now : Time) : LaneTemp :=
  if p.probe[map].state = .valid then
    { tl := p.probe[map].filt, validity := .valid, source := .mapped, holdDue := none }
  else
    let fs := p.validF
    if fs.isEmpty then l.lose tempHold now
    else { tl := fs.sum / fs.length, validity := .valid, source := .mean, holdDue := none }

/-- Lane n recomputes (R32). -/
def State.recomputeLane (s : State) (n : Lane) : State :=
  { s with
    ptu := { s.ptu with
      lane := upd s.ptu.lane n fun l => l.recompute s.ptu s.par.lane[n].probeMap s.par.tempHold s.siteTime } }

/-- Every lane recomputes (R32). -/
def State.recomputeLanes (s : State) : State := allLanes.foldl State.recomputeLane s

def State.updProbe (s : State) (p : Probe) (f : ProbeUnit → ProbeUnit) : State :=
  { s with ptu := { s.ptu with probe := upd s.ptu.probe p f } }

/-! ### A reading (R23 to R30) -/

/-- The probe's own part of a new F: minimum, maximum and alarm units (R30). -/
def ProbeUnit.newF (u : ProbeUnit) (f : Int) : ProbeUnit :=
  { u with filt := f, fMin := min u.fMin f, fMax := max u.fMax f, hot := u.hot.hotEval f, cold := u.cold.coldEval f }

/-- A probe has a new F: minimum, maximum, alarms, then every lane recomputes (R30). -/
def State.newF (s : State) (p : Probe) (f : Int) : State := (s.updProbe p fun u => u.newF f).recomputeLanes

/-- A reading is in range from −800 to 1600 (R23). -/
def inRange (r : Int) : Bool := Config.tempMin ≤ r && r ≤ Config.tempMax

/-- An accepted reading moves F a quarter of the way (R29). -/
def filterStep (f r : Int) : Int := f + (r - f + 2) / 4

/-- The entry into FAULT (R24, R25). -/
def ProbeUnit.toFault (u : ProbeUnit) : ProbeUnit :=
  { u with state := .fault, outRun := u.outRun + 1, inRun := 0, spikeRun := 0, faultEvent := true }

/-- A reading of a probe in UNKNOWN (R24). -/
def State.readUnknown (s : State) (p : Probe) (r : Int) : State :=
  if inRange r then (s.updProbe p fun u => { u with state := .valid, spikeRun := 0, outRun := 0 }).newF p r
  else if s.ptu.probe[p].outRun + 1 < 2 then s.updProbe p fun u => { u with outRun := u.outRun + 1 }
  else s.updProbe p fun u => { u.toFault with spikeRun := u.spikeRun }

/-- A reading of a probe in VALID (R25, R28, R29). -/
def State.readValid (s : State) (p : Probe) (r : Int) : State :=
  let u := s.ptu.probe[p]
  if inRange r then
    let s1 := s.updProbe p fun u => { u with outRun := 0 }
    if |r - u.filt| ≤ 32 then (s1.updProbe p fun u => { u with spikeRun := 0 }).newF p (filterStep u.filt r)
    else if u.spikeRun + 1 < 3 then s1.updProbe p fun u => { u with spikeRun := u.spikeRun + 1 }
    else (s1.updProbe p fun u => { u with spikeRun := 0 }).newF p r
  else if u.outRun + 1 < 2 then s.updProbe p fun u => { u with outRun := u.outRun + 1 }
  else (s.updProbe p ProbeUnit.toFault).recomputeLanes

/-- A reading of a probe in FAULT (R26). -/
def State.readFault (s : State) (p : Probe) (r : Int) : State :=
  if inRange r then
    if s.ptu.probe[p].inRun + 1 < 2 then s.updProbe p fun u => { u with inRun := u.inRun + 1 }
    else (s.updProbe p fun u => { u with state := .valid, inRun := 0, outRun := 0, spikeRun := 0 }).newF p r
  else s.updProbe p fun u => { u with inRun := 0 }

/-- The MCS hands the PTU one reading for one probe (R23). -/
def State.reading (s : State) (p : Probe) (r : Int) : State :=
  let s1 := s.updProbe p fun u => { u with last := r }
  match s.ptu.probe[p].state with
  | .disabled => s
  | .unknown => s1.readUnknown p r
  | .valid => s1.readValid p r
  | .fault => s1.readFault p r

/-- HOLD_TIMER_EXPIRY (R33): the validity becomes INVALID and TL keeps its value. -/
def execHoldTimerExpiry (n : Lane) (s : State) : Host.Outcome State Fault Refusal :=
  .next
    (if expired s.ptu.lane[n].holdDue s.siteTime then
      { s with
        ptu := { s.ptu with lane := upd s.ptu.lane n fun l => { l with validity := .invalid, holdDue := none } } }
    else s)

end Sys2Proof.Machine
end

