-- ==== Sys2Proof/Machine/Scu.lean ====
section
/-! DEFINITION. Chapter 1: the sample events and the timers of the strip channels. -/

namespace Sys2Proof.Machine

/-! ### Windows and deviations -/

/-- A sample window takes a code; a 65th pushes out the oldest (R3). -/
def pushWindow (w : List Int) (x : Int) : List Int := (w ++ [x]).drop (w.length + 1 - Config.windowSize)

/-- The mean of a window, rounded half up: floor((sum + 32)/64) (R4, R13). -/
def windowMean (w : List Int) : Int := (w.sum + 32) / 64

/-- The code of a sample (R1). -/
def sampleCode (code : BitVec 16) : Int := code.toInt

/-- A sample at either limit is clipped (R1). -/
def clippedCode (x : Int) : Bool := x = -32768 || x = 32767

/-- The SCU processes a sample of the strip (R1). -/
def State.processes (s : State) (i : Strip) : Bool :=
  s.loaded && s.scu[i].conn = .connected && s.shu[i].state ≠ .disabled

/-- The strip is idle (R3). -/
def State.idleStrip (s : State) (i : Strip) : Bool :=
  s.scu[i].conn = .connected && s.shu[i].state ≠ .disabled && s.scu[i].pulse.isNone && s.scu[i].standing.isNone &&
    s.scu[i].idleWait = Config.idleWaitFull

/-- A count that stops at 1600 (R3). -/
def advanceWait (n : Nat) : Nat := min (n + 1) Config.idleWaitFull

/-! ### The pulse detector -/

/-- The context that a first sample opens (R7). -/
def PulseCtx.open (now : Time) (d : Int) (clip discard : Bool) : PulseCtx :=
  { first := now, last := now, area := d.toNat, clipped := clip, pend := [], total := 1, discard := discard }

/-- A sample with d ≥ T_OFF joins the pulse, the pending samples first (R8). -/
def PulseCtx.join (p : PulseCtx) (now : Time) (d : Int) (clip : Bool) : PulseCtx :=
  { p with
    last := now
    area := p.area + (p.pend.map (·.1)).sum + d.toNat
    clipped := p.clipped || p.pend.any (·.2) || clip
    pend := []
    total := p.total + 1 }

/-- A sample with d < T_OFF is held pending and advances the end run (R8). -/
def PulseCtx.hold (p : PulseCtx) (d : Int) (clip : Bool) : PulseCtx :=
  { p with pend := p.pend ++ [(d.toNat, clip)], total := p.total + 1 }

/-- The context after a sample of a pulse in progress (R8). -/
def PulseCtx.extend (p : PulseCtx) (tOff : Nat) (now : Time) (d : Int) (clip : Bool) : PulseCtx :=
  if d ≥ tOff then p.join now d clip else p.hold d clip

/-- The end run has reached 4 (R9). -/
def PulseCtx.ended (p : PulseCtx) : Bool := p.pend.length = 4

/-- The sample total has reached 4000 with a sample that does not end the pulse (R11). -/
def PulseCtx.cut (p : PulseCtx) : Bool := !p.ended && Config.longTotal ≤ p.total

/-- The midpoint: first time plus half the interval to the last time (R10). -/
def midpoint (first last : Time) : Time := after first (elapsed first last / 2)

/-- The record of a context (R9, R10, R11). -/
def PulseCtx.record (p : PulseCtx) (i : Strip) (long : Bool) : PulseRecord :=
  { strip := i, first := p.first, last := p.last, mid := midpoint p.first p.last, area := p.area, clipped := p.clipped
    long := long }

/-- The delivery gate: a record passes to the APU unless its pulse carries the discard mark (R18). -/
def State.deliver (s : State) (r : PulseRecord) (discard : Bool) : State :=
  if discard then s else { s with apu := { s.apu with transit := s.apu.transit ++ [r] } }

/-- What a normal end and a cut share: counters, last end time, idle wait, context back to idle (R9, R11). -/
def Scu.endPulse (u : Scu) (now : Time) (r : PulseRecord) : Scu :=
  { u with
    pulse := none
    pulses := bump u.pulses
    clippedPulses := if r.clipped then bump u.clippedPulses else u.clippedPulses
    longPulses := if r.long then bump u.longPulses else u.longPulses
    lastEnd := some now
    idleWait := 0 }

/-- A normal pulse end (R9); the SHU withdraws STANDING (R168). -/
def State.normalEnd (s : State) (i : Strip) (p : PulseCtx) : State :=
  let r := p.record i false
  let s := s.updScu i fun u => u.endPulse s.siteTime r
  let s := s.evidence i fun c => { c with standing := false }
  s.deliver r p.discard

/-- A LONG cut: the strip becomes standing with the end run under way (R11). -/
def State.longCut (s : State) (i : Strip) (p : PulseCtx) : State :=
  let r := p.record i true
  let s := s.updScu i fun u =>
    { u.endPulse s.siteTime r with
      standing := some { endRun := p.pend.length, due := after s.siteTime Config.standingRun } }
  s.deliver r p.discard

/-! ### The test abort that a pulse start brings (R55) -/

/-- A strip goes SETTLING with its settling count at 0 (R16). -/
def State.settle (s : State) (i : Strip) : State := s.updScu i fun u => { u with conn := .settling 0 }

/-- A test abort, R55 steps 1 to 4: the strip settles, the abort is counted, the entry returns to its place. -/
def State.abortTest (s : State) (f : Flight) : State :=
  let i := f.entry.strip
  let s := s.settle i
  let s := s.updTests i fun t => { t with aborted := bump t.aborted }
  { s with
    mcs := { s.mcs with
      queue := insertTest { f.entry with aborts := min (f.entry.aborts + 1) 255 } s.mcs.queue
      flight := none } }

/-- A pulse start reaches the MCS: a test in flight on the lane is abandoned and its slot runs on with no work (R55). -/
def State.pulseStart (s : State) (n : Lane) : State :=
  match s.mcs.flight with
  | some f =>
    if laneOf f.entry.strip = n then
      let s := s.abortTest f
      { s with mcs := { s.mcs with work := .stopped } }
    else s
  | none => s

/-! ### A sample -/

/-- A processed sample of a pulse in progress (R8, R9, R11). -/
def State.pulseSample (s : State) (i : Strip) (p : PulseCtx) (d : Int) (clip : Bool) : State :=
  let p := p.extend s.par.lane[laneOf i].tOff s.siteTime d clip
  if p.ended then s.normalEnd i p
  else if p.cut then s.longCut i p
  else s.updScu i fun u => { u with pulse := some p }

/-- A processed sample of a standing strip (R12). -/
def State.standingSample (s : State) (i : Strip) (st : Standing) (d : Int) : State :=
  if d ≥ s.par.lane[laneOf i].tOff then s.updScu i fun u => { u with standing := some { st with endRun := 0 } }
  else if st.endRun + 1 < 4 then s.updScu i fun u => { u with standing := some { st with endRun := st.endRun + 1 } }
  else s.updScu i fun u => { u with standing := none, idleWait := 0 }

/-- An idle sample: the idle-sample window takes it and it is tested as a noise sample (R1, R3, R14). -/
def Scu.idleSample (u : Scu) (nb : Nat) (x d : Int) : Scu :=
  let u := { u with idleWin := pushWindow u.idleWin x }
  if (nb : Int) ≤ |d| then
    { u with noises := bump u.noises, noiseCount := min (u.noiseCount + 1) Config.noiseCountMax }
  else u

/-- A processed sample with no pulse in progress and no standing load: a pulse start (R7), an idle sample, or neither. -/
def State.restSample (s : State) (i : Strip) (x d : Int) (clip : Bool) : State :=
  let lane := s.par.lane[laneOf i]
  if d ≥ lane.tOn then
    let s := s.updScu i fun u =>
      { u with
        pulse := some (PulseCtx.open s.siteTime d clip (s.shu[i].state = .outOfService))
        idleWait := advanceWait u.idleWait }
    s.pulseStart (laneOf i)
  else
    let idle := s.idleStrip i
    s.updScu i fun u =>
      let u := if idle then u.idleSample lane.nb x d else u
      { u with idleWait := advanceWait u.idleWait }

/-- A sample that arrives in SETTLING is counted; the 200th ends the settling (R16). -/
def State.settlingSample (s : State) (i : Strip) (count : Nat) : State :=
  if count + 1 < Config.settlingTotal then s.updScu i fun u => { u with conn := .settling (count + 1) }
  else
    s.updScu i fun u =>
      { u with
        conn := .connected
        disturb := u.disturb.map fun d => { d with stop := some s.siteTime }
        idleWait := 0 }

/-- A sample of a strip arrives (R1): it is processed, counted in SETTLING, or ignored. -/
def State.takeSample (s : State) (i : Strip) (code : BitVec 16) : State :=
  if s.processes i then
    let x := sampleCode code
    let d := x - s.scu[i].base
    let clip := clippedCode x
    let s := s.updScu i fun u => { u with recentWin := pushWindow u.recentWin x }
    match s.scu[i].pulse, s.scu[i].standing with
    | some p, _ => s.pulseSample i p d clip
    | none, some st => s.standingSample i st d
    | none, none => s.restSample i x d clip
  else
    match s.scu[i].conn with
    | .settling count => s.settlingSample i count
    | _ => s

/-- What a sample brings about: the four outcomes that have rows of their own, or none of them. -/
inductive SampleKind
  | plain
  | normalEnd
  | longCut
  | standingEnd
  | settlingEnd
  deriving DecidableEq, Repr

/-- The outcome of a sample before it is taken (R9, R11, R12, R16). -/
def State.sampleKind (s : State) (i : Strip) (code : BitVec 16) : SampleKind :=
  if s.processes i then
    let x := sampleCode code
    let d := x - s.scu[i].base
    match s.scu[i].pulse, s.scu[i].standing with
    | some p, _ =>
      let p := p.extend s.par.lane[laneOf i].tOff s.siteTime d (clippedCode x)
      if p.ended then .normalEnd else if p.cut then .longCut else .plain
    | none, some st => if d < s.par.lane[laneOf i].tOff ∧ 4 ≤ st.endRun + 1 then .standingEnd else .plain
    | none, none => .plain
  else
    match s.scu[i].conn with
    | .settling count => if Config.settlingTotal ≤ count + 1 then .settlingEnd else .plain
    | _ => .plain

/-- Samples arrive at even site times only (R1). -/
def State.sampleTime (s : State) : Bool := s.siteTime.toNat % 2 = 0

/-- A sample event that must have the outcome of its row: one that has not does not happen (log 1, log 3). -/
def State.sampleRow (s : State) (kind : SampleKind) (i : Strip) (code : BitVec 16) : State :=
  if s.sampleTime ∧ s.sampleKind i code = kind then s.takeSample i code else s

/-! ### The timers -/

/-- The auto-zero step of an idle strip with a full window (R4, R5). -/
def State.autoZero (s : State) (i : Strip) : State :=
  let u := s.scu[i]
  let m := windowMean u.idleWin
  let target :=
    if m > u.base + s.par.azTol then u.base + 1 else if m < u.base - s.par.azTol then u.base - 1 else u.base
  let z := s.cst.working.strip[i].z
  if target = u.base then s
  else if windowLow s.par.azl z ≤ target ∧ target ≤ windowHigh s.par.azl z then
    let s1 := s.updScu i fun u => { u with base := target }
    if |target - z| < |u.base - z| then s1.clearPinned i else s1
  else if u.pinned then s
  else s.updScu i fun u => { u with pinned := true, pinDue := some (after s.siteTime Config.pinnedRun) }

/-- SAMPLE (R1): a sample at an even site time, whatever it brings about (log 3, log 4). -/
def execSample (i : Strip) (code : BitVec 16) (s : State) : Host.Outcome State Fault Refusal :=
  .next (if s.sampleTime then s.takeSample i code else s)

/-- NORMAL_END (R9): the sample that is the fourth of an end run. -/
def execNormalEnd (i : Strip) (code : BitVec 16) (s : State) : Host.Outcome State Fault Refusal :=
  .next (s.sampleRow .normalEnd i code)

/-- LONG_CUT (R11): the sample that brings the total to 4000 and does not end the pulse. -/
def execLongCut (i : Strip) (code : BitVec 16) (s : State) : Host.Outcome State Fault Refusal :=
  .next (s.sampleRow .longCut i code)

/-- STANDING_END (R12): the sample that brings the standing end-run count to 4. -/
def execStandingEnd (i : Strip) (code : BitVec 16) (s : State) : Host.Outcome State Fault Refusal :=
  .next (s.sampleRow .standingEnd i code)

/-- SETTLING_END (R16): the 200th sample in SETTLING. -/
def execSettlingEnd (i : Strip) (code : BitVec 16) (s : State) : Host.Outcome State Fault Refusal :=
  .next (s.sampleRow .settlingEnd i code)

/-- AUTO_ZERO_STEP (R4): the next period starts with AZ_STEP as it stands; an idle strip with 64 idle samples may step. -/
def execAutoZeroStep (i : Strip) (s : State) : Host.Outcome State Fault Refusal :=
  .next
    (if expired s.scu[i].azDue s.siteTime then
      let s1 := s.updScu i fun u => { u with azDue := some (after s.siteTime (s.par.azStep * 160)) }
      if s.idleStrip i ∧ s.scu[i].idleWin.length = Config.windowSize then s1.autoZero i else s1
    else s)

/-- PINNED_TIMER_EXPIRY (R5): the timer stops, the strip stays pinned, DRIFT is reported (R168). -/
def execPinnedTimerExpiry (i : Strip) (s : State) : Host.Outcome State Fault Refusal :=
  .next
    (if expired s.scu[i].pinDue s.siteTime then
      (s.updScu i fun u => { u with pinDue := none }).evidence i fun c => { c with drift := true }
    else s)

/-- STANDING_TIMER_EXPIRY (R13): forced re-zero; within the one event the SHU takes the withdrawal of DRIFT first and then the
report of STANDING (R168), each with its re-evaluation (R164, log 14). -/
def execStandingTimerExpiry (i : Strip) (s : State) : Host.Outcome State Fault Refusal :=
  .next
    (if expired (s.scu[i].standing.map (·.due)) s.siteTime then
      let s1 := s.updScu i fun u =>
        { u with
          base := s.clampBase i (windowMean u.recentWin)
          standing := none
          idleWait := 0 }
      (s1.clearPinned i).evidence i fun c => { c with standing := true }
    else s)

/-- NOISE_WINDOW_END (R15): the live state and its latched view, the count back to 0, the next window; NOISE follows the live
state (R167). -/
def execNoiseWindowEnd (i : Strip) (s : State) : Host.Outcome State Fault Refusal :=
  .next
    (if expired s.scu[i].noiseDue s.siteTime then
      let u := s.scu[i]
      let live :=
        if u.conn = .connected then decide (s.par.lane[laneOf i].noiseLim ≤ u.noiseCount) else u.noisyLive
      let latched := u.noisyLatched || (u.conn = .connected && live)
      let s1 := s.updScu i fun u =>
        { u with
          noisyLive := live
          noisyLatched := latched
          noiseCount := 0
          noiseDue := some (after s.siteTime Config.noiseRun) }
      s1.evidence i fun c => { c with noise := live }
    else s)

end Sys2Proof.Machine
end

