-- ==== Sys2Proof/Machine/Shu.lean ====
section
/-! DEFINITION. Chapter 9: test results, the holdoff timer and the host's strip commands. The service state machine itself is
in Ops.lean, since most blocks report evidence to it. -/

namespace Sys2Proof.Machine

/-- The MCS hands the SHU a result (R169). -/
def State.testResult (s : State) (i : Strip) (pass : Bool) : State :=
  match s.shu[i].state, pass with
  | .inService, true | .suspect, true =>
    (s.updShu i fun h => { h with failCount := 0 }).evidence i fun c => { c with testFail := false }
  | .inService, false | .suspect, false =>
    if s.shu[i].failCount = 1 then
      (s.updShu i fun h => { h with causes := { h.causes with testFail := true } }).failOut i
    else (s.updShu i fun h => { h with failCount := 1 }).evidence i fun c => { c with testFail := true }
  | .recovering, true =>
    s.updShu i fun h => { h.enter .inService with causes := Causes.none, missCount := 0, failCount := 0 }
  | .recovering, false => (s.updShu i fun h => { h with causes := { h.causes with testFail := true } }).failOut i
  | .outOfService, pass => s.updShu i fun h => { h with causes := { h.causes with testFail := !pass } }
  | .disabled, _ => s

/-- HOLDOFF_EXPIRY (R172): the timer stops and the strip stays OUT_OF_SERVICE. -/
def execHoldoffExpiry (i : Strip) (s : State) : Host.Outcome State Fault Refusal :=
  .next
    (if expired s.shu[i].holdoffDue s.siteTime then s.updShu i fun h => { h with holdoffDue := none } else s)

/-- A strip command: its payload is one strip index (section 9.5, R178). -/
def stripCommand (p : List Byte) (s : State) (run : Strip → Reply × State) : Reply × State :=
  match p with
  | [b] =>
    match index 16 b.toNat with
    | some i => run i
    | none => refuse .badValue s
  | _ => refuse .badValue s

/-- The reply of an accepted strip command: the index and the service state after it. -/
def acceptStrip (i : Strip) (s : State) : Reply × State := accept [byte i.val, s.shu[i].state.code] s

/-- STRIP_REMOVE (R173). -/
def stripRemove (p : List Byte) (s : State) : Reply × State :=
  stripCommand p s fun i =>
    match s.shu[i].state with
    | .disabled => refuse .wrongState s
    | .outOfService => acceptStrip i s
    | _ => acceptStrip i (s.takeOut i)

/-- STRIP_RESTORE (R174): the holdoff timer must not be running. -/
def stripRestore (p : List Byte) (s : State) : Reply × State :=
  stripCommand p s fun i =>
    if s.shu[i].state ≠ .outOfService then refuse .wrongState s
    else if s.shu[i].holdoffDue.isSome then refuse .holdoff s
    else acceptStrip i ((s.updShu i fun h => h.enter .recovering).request i .recover)

/-- STRIP_TEST (R175). -/
def stripTest (p : List Byte) (s : State) : Reply × State :=
  stripCommand p s fun i =>
    match s.shu[i].state with
    | .inService | .suspect => acceptStrip i (s.request i .host)
    | _ => refuse .wrongState s

/-- The coding of the connection states (R178). -/
def Conn.code : Conn → Byte
  | .connected => 0
  | .underTest => 1
  | .settling _ => 2

/-- The test byte and the abort count of STRIP_STATUS (R178, R57). -/
def testBytes (m : Mcs) (i : Strip) : List Byte :=
  let last := bit 32 m.strip[i].lastCode.isSome
  match m.inFlight i, m.queued i with
  | some f, _ => [byte (2 * f.entry.origin.rank + 8 + bit 16 (f.phase = .read) + last), byte f.entry.aborts]
  | none, some e => [byte (1 + 2 * e.origin.rank + last), byte e.aborts]
  | none, none => [byte last, 0]

/-- The STRIP_STATUS response (R178, with R15 and R57). -/
def stripStatusBytes (s : State) (i : Strip) : List Byte :=
  let h := s.shu[i]
  let u := s.scu[i]
  let marks := byte (bit 1 h.leftService + bit 2 h.changed + bit 4 u.noisyLive + bit 8 u.noisyLatched +
    bit 16 u.standing.isSome + bit 32 u.pinned)
  [byte i.val, h.state.code, h.causes.toByte, marks, byte h.missCount, byte h.failCount] ++
    bytes2 ((timeLeft h.holdoffDue s.siteTime + 15999) / 16000) ++ signed2 u.base ++ [u.conn.code] ++ testBytes s.mcs i ++
    bytes2 (s.mcs.strip[i].lastCode.getD 0)

/-- STRIP_STATUS (R178): the response, then the two marks and the NOISY latched view are cleared. -/
def stripStatus (p : List Byte) (s : State) : Reply × State :=
  stripCommand p s fun i =>
    accept (stripStatusBytes s i)
      ((s.updShu i fun h => { h with leftService := false, changed := false }).updScu i
        fun u => { u with noisyLatched := false })

/-- STRIP_REMOVE, code 28h. -/
def execStripRemove (x : Xfer) (p : List Byte) (s : State) : Host.Outcome State Fault Refusal :=
  addressedCommand 0x28 x p stripRemove s

/-- STRIP_RESTORE, code 29h. -/
def execStripRestore (x : Xfer) (p : List Byte) (s : State) : Host.Outcome State Fault Refusal :=
  addressedCommand 0x29 x p stripRestore s

/-- STRIP_TEST, code 2Ah. -/
def execStripTest (x : Xfer) (p : List Byte) (s : State) : Host.Outcome State Fault Refusal :=
  addressedCommand 0x2A x p stripTest s

/-- STRIP_STATUS, code 2Bh. -/
def execStripStatus (x : Xfer) (p : List Byte) (s : State) : Host.Outcome State Fault Refusal :=
  addressedCommand 0x2B x p stripStatus s

end Sys2Proof.Machine
end

