-- ==== Sys2Proof/Machine/Mcs.lean ====
section
/-! DEFINITION. Chapter 3: the slot boundary, the choice of work, the insulation test and the periodic timers. -/

namespace Sys2Proof.Machine

/-! ### The frame (R42 to R44) -/

/-- The first non-removed slot of a frame, from a list of positions. -/
def firstSlot (f : Vector Slot 4) (from_ : List (Fin 4)) : Option (Fin 4) := from_.find? fun k => f[k].len ≠ 0

/-- The positions behind a position. -/
def positionsAfter (k : Fin 4) : List (Fin 4) := [0, 1, 2, 3].filter fun j => k < j

/-- The next non-removed slot of the same frame (R43). -/
def Mcs.nextInFrame (m : Mcs) : Option (Fin 4) := firstSlot m.frame (positionsAfter m.pos)

/-- The first slot of the frame that begins at the next frame start; some slot is never removed (R42). -/
def Mcs.firstPending (m : Mcs) : Fin 4 := (firstSlot m.pendingFrame [0, 1, 2, 3]).getD 0

/-- The slot that follows the running one: in the frame in force, or the first of the pending frame (R44). -/
def Mcs.nextSlot (m : Mcs) : Slot :=
  match m.nextInFrame with
  | some k => m.frame[k]
  | none => m.pendingFrame[m.firstPending]

/-- The move to the next slot; at a frame start the pending frame comes into force first (R43). -/
def Mcs.advance (m : Mcs) : Mcs :=
  match m.nextInFrame with
  | some k => { m with pos := k }
  | none => { m with frame := m.pendingFrame, pos := m.firstPending }

/-! ### The work of a slot (R44 to R46, R52, R53) -/

/-- A queued entry is eligible (R52). -/
def State.eligible (s : State) (e : TestEntry) : Bool :=
  (s.shu[e.strip].state = .inService || s.shu[e.strip].state = .suspect ||
      (e.origin = .recover && s.shu[e.strip].state = .recovering)) &&
    s.scu[e.strip].conn = .connected && s.quiet (laneOf e.strip)

/-- The entry that a charge slot would take: the first eligible one, if the next slot is a READ slot (R44, R52). -/
def State.testToTake (s : State) : Option TestEntry :=
  if s.mcs.nextSlot.rule = .read then s.mcs.queue.find? s.eligible else none

/-- The probes from the round-robin pointer on. -/
def probesFrom (p : Probe) : List Probe := [p, p + 1, p + 2, p + 3]

/-- The probe that a conversion would take (R45). -/
def State.probeToConvert (s : State) : Option Probe :=
  (probesFrom s.mcs.pointer).find? fun p => s.ptu.probe[p].state ≠ .disabled

/-- The work that a slot's rule chooses, before the fit check (R44). -/
inductive Choice
  | probe (p : Probe)
  | charge (e : TestEntry)
  | read
  | none
  deriving DecidableEq, Repr

def State.chooseProbe (s : State) : Choice :=
  match s.probeToConvert with
  | some p => .probe p
  | none => .none

/-- The choice of R44's table. -/
def State.choose (s : State) (r : SlotRule) : Choice :=
  match r, s.testToTake with
  | .probe, _ => s.chooseProbe
  | .chargeElseProbe, some e => .charge e
  | .chargeElseProbe, none => s.chooseProbe
  | .chargeElseIdle, some e => .charge e
  | .chargeElseIdle, none => .none
  | .read, _ => if s.mcs.prev = .charged then .read else .none
  | .idle, _ => .none

/-- The chosen work fits its slot (R44). -/
def Choice.fits (c : Choice) (len next : Nat) : Bool :=
  match c with
  | .probe _ => Config.probeMin ≤ len
  | .charge _ => Config.chargeMin ≤ len && Config.readMin ≤ next
  | .read => Config.readMin ≤ len
  | .none => true

def State.setWork (s : State) (w : Work) : State := { s with mcs := { s.mcs with work := w } }

/-- SCHEDULE_SHORT is latched (R44, R46, R205). -/
def State.latchShort (s : State) : State := { s with cpt := { s.cpt with scheduleShort := true } }

/-- A charge starts (R53): the entry leaves the queue and is in flight, its strip goes UNDER_TEST and opens a disturbance
interval (R16). -/
def State.startCharge (s : State) (e : TestEntry) : State :=
  let s := { s with
    mcs := { s.mcs with
      queue := s.mcs.queue.filter fun q => q.strip ≠ e.strip
      flight := some { entry := e, phase := .charge }
      work := .charge } }
  s.updScu e.strip fun u => { u with conn := .underTest, disturb := some { start := s.siteTime, stop := none } }

/-- The chosen work begins (R45, R46, R53). -/
def State.beginWork (s : State) (c : Choice) : State :=
  match c with
  | .probe p => { s with mcs := { s.mcs with work := .probe p, pointer := p + 1 } }
  | .charge e => s.startCharge e
  | .read =>
    { s with mcs := { s.mcs with work := .read, flight := s.mcs.flight.map fun f => { f with phase := .read } } }
  | .none => s.setWork .none

/-- The slot at the slot position chooses its work and checks that it fits (R44). -/
def State.chooseWork (s : State) : State :=
  let slot := s.mcs.frame[s.mcs.pos]
  let c := s.choose slot.rule
  if c.fits slot.len s.mcs.nextSlot.len then s.beginWork c else (s.setWork .none).latchShort

/-- A slot after a charge that does not read abandons the test in flight (R46). -/
def State.breakSequence (s : State) : State :=
  let slot := s.mcs.frame[s.mcs.pos]
  match s.mcs.flight with
  | some f =>
    if s.mcs.prev = .charged ∧ ¬ (slot.rule = .read ∧ Config.readMin ≤ slot.len) then
      let s := s.abortTest f
      let s := { s with mcs := { s.mcs with prev := .aborted } }
      if slot.rule = .read then s.latchShort else s
    else s
  | none => s

/-- A slot begins: its end is set, a broken sequence is settled, the work is chosen (R43, R44, R46). -/
def State.beginSlot (s : State) : State :=
  let s := { s with
    mcs := { s.mcs with slotDue := some (after s.siteTime (s.mcs.frame[s.mcs.pos].len * 16)) } }
  s.breakSequence.chooseWork

/-! ### The end of a slot (R43, R45, R54) -/

/-- The next periodic test of a strip, after a read completion or an expiry (R50). -/
def State.nextPeriod (s : State) : Option Time :=
  if 0 < s.par.testPeriod then some (after s.siteTime (s.par.testPeriod * 960000)) else none

/-- A read completes with an insulation code (R54). The result goes to the SHU when the MCS has finished its steps, so that
a request which it causes finds no test in flight (R171, log 15). -/
def State.readCompletion (s : State) (f : Flight) (code : Nat) : State :=
  let i := f.entry.strip
  let pass : Bool := s.par.testLimit ≤ code
  let s := s.updTests i fun t =>
    { t with
      lastCode := some code
      passed := if pass then bump t.passed else t.passed
      failed := if pass then t.failed else bump t.failed
      periodicDue := s.nextPeriod }
  let s := s.settle i
  let s := { s with mcs := { s.mcs with flight := none } }
  s.testResult i pass

def State.setPrev (s : State) (o : SlotOutcome) : State := { s with mcs := { s.mcs with prev := o } }

/-- The ending slot's work ends with the converter's result, and its outcome becomes the previous-slot outcome (R43, R45,
R54). -/
def State.endWork (s : State) (result : BitVec 16) : State :=
  match s.mcs.work with
  | .probe p => (s.reading p result.toInt).setPrev .probed
  | .charge => s.setPrev .charged
  | .read =>
    match s.mcs.flight with
    | some f => (s.readCompletion f result.toNat).setPrev .readDone
    | none => s.setPrev .readDone
  | .none => s.setPrev .idle
  | .stopped => s.setPrev .aborted

/-- SLOT_BOUNDARY (R43): the slot has lasted its length and the converter gives its result, a reading in 1/16 °C (signed) or
an insulation code (unsigned) (log 13). -/
def execSlotBoundary (result : BitVec 16) (s : State) : Host.Outcome State Fault Refusal :=
  .next
    (if expired s.mcs.slotDue s.siteTime then
      let s := s.endWork result
      { s with mcs := s.mcs.advance }.beginSlot
    else s)

/-- PERIODIC_TIMER_EXPIRY (R50): a PERIODIC request for a strip in use, and the next period. -/
def execPeriodicTimerExpiry (i : Strip) (s : State) : Host.Outcome State Fault Refusal :=
  .next
    (if expired s.mcs.strip[i].periodicDue s.siteTime then
      let s1 := if s.shu[i].state.delivers then s.request i .periodic else s
      s1.updTests i fun t => { t with periodicDue := s1.nextPeriod }
    else s)

end Sys2Proof.Machine
end

