-- ==== Sys2Proof/Machine/Cst.lean ====
section
/-! DEFINITION. Chapter 10: the calibration image and its CRC-16, the calibration commands, the store and its completion, the
switch, and the start-up load. -/

namespace Sys2Proof.Machine

/-! ### CRC-16 (R183) -/

/-- One shift of the CRC-16 register, generator 1021h. -/
def crc16Shift (r : BitVec 16) : BitVec 16 := if r.msb then (r <<< 1) ^^^ 0x1021 else r <<< 1

/-- One byte into the upper eight bits of the CRC-16 register. -/
def crc16Byte (r : BitVec 16) (b : Byte) : BitVec 16 := Nat.repeat crc16Shift 8 (r ^^^ (b.setWidth 16 <<< 8))

/-- The CRC-16 of a byte string, initial value FFFFh. -/
def crc16 (bytes : List Byte) : BitVec 16 := bytes.foldl crc16Byte 0xFFFF

/-! ### The image (section 10.2) -/

/-- A strip's item: K0 to K8 and Z, 20 bytes. -/
def StripCal.bytes (c : StripCal) : List Byte := c.k.toList.flatMap bytes2 ++ signed2 c.z

/-- A lane's item: S and trim, 4 bytes. -/
def LaneCal.bytes (c : LaneCal) : List Byte := bytes2 c.spacing ++ signed2 c.trim

/-- The 336 value bytes of a set. -/
def CalSet.bytes (c : CalSet) : List Byte := c.strip.toList.flatMap StripCal.bytes ++ c.lane.toList.flatMap LaneCal.bytes

/-- The strip item at an offset of a byte string. -/
def stripItem (p : List Byte) (at_ : Nat) : StripCal :=
  { k := Vector.ofFn fun j : Fin 9 => u16 p (at_ + 2 * j.val), z := s16 p (at_ + 18) }

/-- The lane item at an offset of a byte string. -/
def laneItem (p : List Byte) (at_ : Nat) : LaneCal := { spacing := u16 p at_, trim := s16 p (at_ + 2) }

/-- The values of an image. -/
def CalSet.ofBytes (p : List Byte) : CalSet :=
  { strip := Vector.ofFn fun i : Fin 16 => stripItem p (20 * i.val)
    lane := Vector.ofFn fun m : Fin 4 => laneItem p (320 + 4 * m.val) }

/-- The CRC of a set of values (R183). -/
def CalSet.crc (c : CalSet) : BitVec 16 := crc16 c.bytes

/-- A trim within −512 to +511 (R194). -/
def clampTrim (t : Int) : Int := clamp (-512) 511 t

/-- Each value clamped into its working range (R197 step 4). -/
def CalSet.clamped (c : CalSet) : CalSet :=
  { strip := mapAll c.strip fun v => { v with k := mapAll v.k fun k => max k 1 }
    lane := mapAll c.lane fun v => { spacing := min (max v.spacing 500) 5000, trim := clampTrim v.trim } }

/-- The values that CAL_COMMIT lets through: no K of 0, every S from 500 to 5000 (R190). -/
def CalSet.storable (c : CalSet) : Bool :=
  (c.strip.toList.all fun v => v.k.toList.all fun k => k ≠ 0) &&
    c.lane.toList.all fun v => 500 ≤ v.spacing && v.spacing ≤ 5000

def State.updCst (s : State) (f : Cst → Cst) : State := { s with cst := f s.cst }

/-! ### Commands that change calibration (R186) -/

/-- The first two checks of R186: switch, store in flight. -/
def whenUnlocked (s : State) (run : Reply × State) : Reply × State :=
  if !s.cst.closed then refuse .calLocked s
  else if s.cst.store.isSome then refuse .busy s
  else run

/-- The staging copy replaced. -/
def State.stage (s : State) (c : CalSet) : State := s.updCst fun k => { k with staging := c }

/-- The reply of CAL_WRITE and the new staging copy (R187). -/
def acceptStage (target : Byte) (c : CalSet) (s : State) : Reply × State :=
  accept (target :: bytes2 c.crc.toNat) (s.stage c)

/-- CAL_WRITE (R187). -/
def calWrite (p : List Byte) (s : State) : Reply × State :=
  whenUnlocked s
    (match p with
    | [] => refuse .badValue s
    | target :: item =>
      match index 16 target.toNat, index 4 (target.toNat - 16) with
      | some i, _ =>
        if item.length = 20 then
          acceptStage target { s.cst.staging with strip := upd s.cst.staging.strip i fun _ => stripItem item 0 } s
        else refuse .badValue s
      | none, some m =>
        let v := laneItem item 0
        if item.length = 4 ∧ -512 ≤ v.trim ∧ v.trim ≤ 511 then
          acceptStage target { s.cst.staging with lane := upd s.cst.staging.lane m fun _ => v } s
        else refuse .badValue s
      | none, none => refuse .badValue s)

/-- CAL_LOAD (R188). -/
def calLoad (p : List Byte) (s : State) : Reply × State :=
  whenUnlocked s (whenEmpty p s (accept (bytes2 s.cst.working.crc.toNat) (s.stage s.cst.working)))

/-- The item of CAL_READ's target table (R189). -/
def CalSet.item (c : CalSet) (target : Nat) : Option (List Byte) :=
  match index 16 target, index 4 (target - 16) with
  | some i, _ => some c.strip[i].bytes
  | none, some m => some c.lane[m].bytes
  | none, none => if target = 20 then some (bytes2 c.crc.toNat) else none

/-- CAL_READ (R189): answered in either switch position and while a store is in flight. -/
def calRead (p : List Byte) (s : State) : Reply × State :=
  match p with
  | [sel, target] =>
    if 1 < sel.toNat then refuse .badValue s
    else
      match (if sel = 0 then s.cst.working else s.cst.staging).item target.toNat with
      | some bytes => accept ([sel, target] ++ bytes4 s.cst.counter ++ [s.cst.stateByte] ++ bytes) s
      | none => refuse .badValue s
  | _ => refuse .badValue s

/-- CAL_COMMIT (R190). -/
def calCommit (p : List Byte) (s : State) : Reply × State :=
  whenUnlocked s
    (if p.length ≠ 2 ∨ !s.cst.staging.storable ∨ s.cst.counter = 4294967295 then refuse .badValue s
    else if u16 p 0 ≠ s.cst.staging.crc.toNat then refuse .crcMismatch s
    else
      accept (bytes4 s.cst.counter ++ bytes2 s.cst.staging.crc.toNat)
        (s.updCst fun k => { k with store := some s.siteTime }))

/-- One lane's trim changed in a copy. -/
def CalSet.withTrim (c : CalSet) (m : Lane) (t : Int) : CalSet :=
  { c with lane := upd c.lane m fun v => { v with trim := t } }

/-- TRIM_SET (R194). -/
def trimSet (p : List Byte) (s : State) : Reply × State :=
  whenUnlocked s
    (match index 4 (u8 p 0) with
    | some m =>
      if p.length ≠ 3 then refuse .badValue s
      else
        let t := clampTrim (s16 p 1)
        accept (byte m.val :: signed2 t)
          (s.updCst fun k =>
            { k with working := k.working.withTrim m t, staging := k.staging.withTrim m t, unstored := true })
    | none => refuse .badValue s)

/-- The steps of TRIM_STEP (R195). -/
def trimStepOf : Nat → Option Int
  | 0 => some 1
  | 1 => some 8
  | 2 => some 40
  | 3 => some (-1)
  | 4 => some (-8)
  | 5 => some (-40)
  | _ => none

/-- The trims of the lanes of a mask stepped, saturating (R195). -/
def CalSet.stepped (c : CalSet) (mask : Byte) (d : Int) : CalSet :=
  { c with
    lane := Vector.ofFn fun m : Fin 4 =>
      if mask.getLsbD m.val then { c.lane[m] with trim := clampTrim (c.lane[m].trim + d) } else c.lane[m] }

/-- TRIM_STEP (R195). -/
def trimStep (p : List Byte) (s : State) : Reply × State :=
  whenUnlocked s
    (match p with
    | [mask, code] =>
      match trimStepOf code.toNat with
      | some d =>
        if mask &&& 0xF0 ≠ 0 then refuse .badValue s
        else
          let s1 := s.updCst fun k =>
            { k with
              working := k.working.stepped mask d
              staging := k.staging.stepped mask d
              unstored := k.unstored || mask ≠ 0 }
          accept (s1.cst.working.lane.toList.flatMap fun v => signed2 v.trim) s1
      | none => refuse .badValue s
    | _ => refuse .badValue s)

/-! ### The store (R190 to R193) -/

/-- The image bytes of a slot: value bytes and their CRC field. -/
def imageBytes (values : List Byte) (crc : BitVec 16) : List Byte := values ++ bytes2 crc.toNat

/-- The bytes of the spare slot replaced (R184). -/
def Nonvolatile.writeSpare (v : Nonvolatile) (bytes : List Byte) : Nonvolatile :=
  if v.current1 then { v with slot0 := bytes } else { v with slot1 := bytes }

/-- The slot record as a successful or a failed store writes it (R192 step 1, R193 step 1). -/
def Nonvolatile.writeRecord (v : Nonvolatile) (success : Bool) : Nonvolatile :=
  if success then { v with current1 := !v.current1, counter := v.counter + 1, failMark := false }
  else { v with failMark := true }

/-- What a completed store leaves in the memory: the spare slot as it reads back and the slot record (R184, R190). -/
def Nonvolatile.stored (v : Nonvolatile) (readBack : List Byte) (crc : BitVec 16) : Nonvolatile :=
  (v.writeSpare (imageBytes readBack crc)).writeRecord (crc16 readBack = crc)

/-- A successful completion (R192): record, counter, working copy, status, mark, window changes, CAL_EVENT. -/
def State.storeSuccess (s : State) (readBack : List Byte) : State :=
  let old := s.cst.working
  let s := s.updCst fun k =>
    let nv := k.nv.stored readBack k.staging.crc
    { k with nv := nv, counter := nv.counter, working := k.staging, store := none, invalid := false, unstored := false }
  let s := allStrips.foldl (fun s i => if s.cst.working.strip[i].z = old.strip[i].z then s else s.windowChange i) s
  { s with cpt := { s.cpt with calEvent := true } }

/-- A failed completion (R193): failure mark, status INVALID, CAL_EVENT. -/
def State.storeFailure (s : State) (readBack : List Byte) : State :=
  let s := s.updCst fun k =>
    let nv := k.nv.stored readBack k.staging.crc
    { k with nv := nv, counter := nv.counter, store := none, invalid := true }
  { s with cpt := { s.cpt with calEvent := true } }

/-- A store may complete from 480 to 1,440 tu after its acceptance (R190). -/
def State.storeDue (s : State) : Bool :=
  match s.cst.store with
  | some t => Config.storeMin ≤ elapsed t s.siteTime && elapsed t s.siteTime ≤ Config.storeMax
  | none => false

/-- STORE_COMPLETION (R190): the spare slot reads back as these value bytes; success when their CRC is the staging CRC. -/
def execStoreCompletion (readBack : List Byte) (s : State) : Host.Outcome State Fault Refusal :=
  .next
    (if s.storeDue then
      if crc16 readBack = s.cst.staging.crc then s.storeSuccess readBack else s.storeFailure readBack
    else s)

/-! ### The switch (R185) -/

/-- CALSW_INPUT_CHANGE (R185): the input changes level. A new position waits 800 tu afresh; a change back to the position
taken cancels the wait. Until the load completes there is no wait, since the load takes the input as it stands. -/
def execCalswInputChange (closed : Bool) (s : State) : Host.Outcome State Fault Refusal :=
  .next
    (if closed = s.cst.calsw then s
    else
      s.updCst fun k =>
        { k with
          calsw := closed
          calswDue := if s.loaded && closed ≠ k.closed then some (after s.siteTime Config.switchHold) else none })

/-- SWITCH_POSITION_TAKEN (R185): the input has held a new position for 800 tu. -/
def execSwitchPositionTaken (s : State) : Host.Outcome State Fault Refusal :=
  .next
    (if expired s.cst.calswDue s.siteTime then s.updCst fun k => { k with closed := k.calsw, calswDue := none } else s)

/-! ### The start-up load (R197, R21, R58) -/

/-- The image of the current slot. -/
def Nonvolatile.current (v : Nonvolatile) : List Byte := if v.current1 then v.slot1 else v.slot0

/-- The CST after the start-up load (R197 steps 1 to 6). -/
def Cst.load (k : Cst) : Cst :=
  let image := k.nv.current
  let values := image.take Config.imageValues
  let good : Bool := crc16 values = BitVec.ofNat 16 (u16 image Config.imageValues)
  let working := if good then CalSet.ofBytes values else (CalSet.ofBytes values).clamped
  { k with
    counter := k.nv.counter
    working := working
    staging := working
    store := none
    invalid := !good || k.nv.failMark
    unstored := false
    closed := k.calsw
    calswDue := none }

/-- LOAD_COMPLETION (R197): the copies, the baselines and SCU timers (R21), the periodic timers and the first slot (R58), and
the command port (R203) start. -/
def execLoadCompletion (s : State) : Host.Outcome State Fault Refusal :=
  .next
    (if s.loaded then s
    else
      let s := { s.updCst Cst.load with loaded := true }
      let s := allStrips.foldl
        (fun s i =>
          let s := s.updScu i fun u =>
            { u with
              base := s.cst.working.strip[i].z
              azDue := some (after s.siteTime (s.par.azStep * 160))
              noiseDue := some (after s.siteTime Config.noiseRun) }
          s.updTests i fun t => { t with periodicDue := s.nextPeriod })
        s
      s.beginSlot)

/-! ### The rows of the host -/

/-- CAL_WRITE, code 30h. -/
def execCalWrite (x : Xfer) (p : List Byte) (s : State) : Host.Outcome State Fault Refusal :=
  addressedCommand 0x30 x p calWrite s

/-- CAL_LOAD, code 31h. -/
def execCalLoad (x : Xfer) (p : List Byte) (s : State) : Host.Outcome State Fault Refusal :=
  addressedCommand 0x31 x p calLoad s

/-- CAL_READ, code 32h. -/
def execCalRead (x : Xfer) (p : List Byte) (s : State) : Host.Outcome State Fault Refusal :=
  addressedCommand 0x32 x p calRead s

/-- CAL_COMMIT, code 33h. -/
def execCalCommit (x : Xfer) (p : List Byte) (s : State) : Host.Outcome State Fault Refusal :=
  addressedCommand 0x33 x p calCommit s

/-- TRIM_SET, code 34h. -/
def execTrimSet (x : Xfer) (p : List Byte) (s : State) : Host.Outcome State Fault Refusal :=
  addressedCommand 0x34 x p trimSet s

/-- TRIM_STEP, code 35h; it may be broadcast (R195, R203). -/
def execTrimStep (x : Xfer) (p : List Byte) (s : State) : Host.Outcome State Fault Refusal :=
  .next (hostCommand 0x35 true x p (trimStep p) s)

end Sys2Proof.Machine
end

