-- ==== Sys2Proof/Machine/Params.lean ====
section
/-! DEFINITION. Chapter 11, section 11.4: the parameters, their reading and the 31 PARAM_WRITE rows. -/

namespace Sys2Proof.Machine

/-! ### Scopes (R207) -/

/-- What the index of a parameter names. -/
inductive Scope
  | site
  | lane
  | strip
  | boundary
  | probe
  deriving DecidableEq, Repr

/-- The scope of a parameter. -/
def paramScope : Param → Scope
  | .tOn | .tOff | .nb | .noiseLim | .wLr | .spdtol | .maxsp | .maxclose | .rdt | .probeMap => .lane
  | .enable => .strip
  | .straddleEn => .boundary
  | .probeEn | .hotTo | .hotTh | .hotMode | .coldTo | .coldTh | .coldMode => .probe
  | .azl | .azTol | .azStep | .grp | .tempHold | .slotLen _ | .slotRule _ | .testLimit | .testPeriod | .missLim
  | .holdoff | .attnMask => .site

/-- How many indexes a scope has. -/
def Scope.size : Scope → Nat
  | .site => 1
  | .lane => 4
  | .strip => 16
  | .boundary => 3
  | .probe => 4

/-- The quiet check of a PARAM_WRITE (R207 step 2, R51). -/
def State.quietFor (s : State) (c : Scope) (k : Nat) : Bool :=
  match c with
  | .lane => s.quiet (Fin.ofNat 4 k)
  | .strip => s.quiet (laneOf (Fin.ofNat 16 k))
  | .boundary => s.quiet (Fin.ofNat 4 k) && s.quiet (Fin.ofNat 4 (k + 1))
  | .site | .probe => true

/-! ### Codes (R207) -/

def AlarmMode.code : AlarmMode → Nat
  | .comparator => 0
  | .twoEvent => 1
  | .oneEvent => 2

/-- The mode that a value names. -/
def modeOf (v : Int) : Option AlarmMode :=
  if v = 0 then some .comparator else if v = 1 then some .twoEvent else if v = 2 then some .oneEvent else none

def SlotRule.code : SlotRule → Nat
  | .probe => 0
  | .chargeElseProbe => 1
  | .chargeElseIdle => 2
  | .read => 3
  | .idle => 4

/-- The rule that a value names. -/
def ruleOf (v : Int) : Option SlotRule :=
  if v = 0 then some .probe
  else if v = 1 then some .chargeElseProbe
  else if v = 2 then some .chargeElseIdle
  else if v = 3 then some .read
  else if v = 4 then some .idle
  else none

/-! ### The value as it stands (R208) -/

/-- The value of a parameter at an index of its scope. -/
def State.paramValue (s : State) (p : Param) (k : Nat) : Int :=
  let lane := s.par.lane[Fin.ofNat 4 k]
  let probe := s.ptu.probe[Fin.ofNat 4 k]
  match p with
  | .tOn => lane.tOn
  | .tOff => lane.tOff
  | .nb => lane.nb
  | .noiseLim => lane.noiseLim
  | .azl => s.par.azl
  | .azTol => s.par.azTol
  | .azStep => s.par.azStep
  | .enable => bit 1 (s.shu[Fin.ofNat 16 k].state ≠ .disabled)
  | .wLr => lane.wLr
  | .straddleEn => bit 1 s.par.straddleEn[Fin.ofNat 3 k]
  | .spdtol => lane.spdTol
  | .maxsp => lane.maxSp
  | .maxclose => lane.maxClose
  | .grp => s.par.grp
  | .rdt => lane.rdt
  | .probeMap => lane.probeMap.val
  | .probeEn => bit 1 (probe.state ≠ .disabled)
  | .tempHold => s.par.tempHold
  | .hotTo => probe.hot.trip
  | .hotTh => probe.hot.hyst
  | .hotMode => probe.hot.mode.code
  | .coldTo => probe.cold.trip
  | .coldTh => probe.cold.hyst
  | .coldMode => probe.cold.mode.code
  | .slotLen n => s.mcs.pendingFrame[n].len
  | .slotRule n => s.mcs.pendingFrame[n].rule.code
  | .testLimit => s.par.testLimit
  | .testPeriod => s.par.testPeriod
  | .missLim => s.par.missLim
  | .holdoff => s.par.holdoff
  | .attnMask => s.par.attnMask.toNat

/-! ### Checks and hand-over (R207) -/

/-- How a parameter takes a written value: at an index, none for a refused value (step 3), otherwise the state in which the
clamped value has been applied (step 4 and the owner's rule). -/
abbrev Applier := Nat → Int → State → Option State

/-- PARAM_WRITE of a known parameter, its payload behind the identifier given: payload, quiet, refused values, clamp and
hand-over (R207). -/
def paramWrite (p : Param) (apply : Applier) (rest : List Byte) (s : State) : Reply × State :=
  let k := u8 rest 0
  if rest.length ≠ 5 ∨ (paramScope p).size ≤ k then refuse .badValue s
  else if !s.quietFor (paramScope p) k then refuse .laneBusy s
  else
    match apply k (s32 rest 1) s with
    | some s1 => accept (p.id :: byte k :: signed4 (s1.paramValue p k)) s1
    | none => refuse .badValue s

/-- A PARAM_WRITE row, code 02h. -/
def paramCommand (p : Param) (apply : Applier) (x : Xfer) (rest : List Byte) (s : State) :
    Host.Outcome State Fault Refusal :=
  addressedCommand paramWriteCode x (p.id :: rest) (fun _ => paramWrite p apply rest) s

/-- A value clamped into a range of numbers (R207 step 4). -/
def clampNat (lo hi : Nat) (v : Int) : Nat := (clamp lo hi v).toNat

def State.updPar (s : State) (f : Par → Par) : State := { s with par := f s.par }

def State.updLanePar (s : State) (n : Lane) (f : LanePar → LanePar) : State :=
  s.updPar fun p => { p with lane := upd p.lane n f }

/-- A lane parameter that is clamped and stored, whose readers take it from their next use. -/
def storeLane (lo hi : Nat) (f : Nat → LanePar → LanePar) : Applier := fun k v s =>
  some (s.updLanePar (Fin.ofNat 4 k) (f (clampNat lo hi v)))

/-- A site parameter that is clamped and stored. -/
def storeSite (lo hi : Nat) (f : Nat → Par → Par) : Applier := fun _ v s => some (s.updPar (f (clampNat lo hi v)))

/-! ### Owners' rules -/

/-- T_ON lowers T_OFF to itself and NB with it (R6). -/
def LanePar.writeTOn (v : Nat) (p : LanePar) : LanePar :=
  { p with tOn := v, tOff := min p.tOff v, nb := min p.nb (min p.tOff v) }

/-- T_OFF is clamped to T_ON and lowers NB to itself (R6). -/
def LanePar.writeTOff (v : Int) (p : LanePar) : LanePar :=
  let t := clampNat 8 p.tOn v
  { p with tOff := t, nb := min p.nb t }

/-- NB is clamped to T_OFF (R6). -/
def LanePar.writeNb (v : Int) (p : LanePar) : LanePar := { p with nb := clampNat 1 p.tOff v }

def applyTOff : Applier := fun k v s => some (s.updLanePar (Fin.ofNat 4 k) (LanePar.writeTOff v))

def applyNb : Applier := fun k v s => some (s.updLanePar (Fin.ofNat 4 k) (LanePar.writeNb v))

/-- A changed AZL changes every strip's window (R2). -/
def applyAzl : Applier := fun _ v s =>
  let a := clampNat 0 4095 v
  if a = s.par.azl then some s
  else some (allStrips.foldl State.windowChange (s.updPar fun p => { p with azl := a }))

/-- A strip enters DISABLED (R176, R19, R67). -/
def State.disable (s : State) (i : Strip) : State :=
  let s := s.updShu i fun h =>
    { h.enter .disabled with causes := Causes.none, missCount := 0, failCount := 0, holdoffDue := none }
  let s := s.updScu i fun u =>
    { u with
      pulse := none
      standing := none
      pinned := false
      pinDue := none
      noisyLive := false
      noisyLatched := false
      noiseCount := 0
      idleWin := []
      recentWin := [] }
  { s with apu := s.apu.purge i }

/-- A strip leaves DISABLED (R176, R19). -/
def State.enable (s : State) (i : Strip) : State :=
  let s := s.updShu i fun h => { h.enter .inService with causes := Causes.none, missCount := 0 }
  s.updScu i fun u => { u with idleWait := 0 }

/-- ENABLE, 0 or above (R176); a write that leaves the value unchanged changes no state. -/
def applyEnable : Applier := fun k v s =>
  let i : Strip := Fin.ofNat 16 k
  let on : Bool := 0 < v
  if on = (s.shu[i].state ≠ .disabled) then some s
  else if on then some (s.enable i)
  else some (s.disable i)

/-- STRADDLE_EN (R80). -/
def applyStraddleEn : Applier := fun k v s =>
  some (s.updPar fun p => { p with straddleEn := upd p.straddleEn (Fin.ofNat 3 k) fun _ => 0 < v })

/-- A changed PROBE_MAP makes the lane recompute (R34). -/
def applyProbeMap : Applier := fun k v s =>
  let n : Lane := Fin.ofNat 4 k
  let p : Probe := Fin.ofNat 4 (clampNat 0 3 v)
  if p = s.par.lane[n].probeMap then some s
  else some ((s.updLanePar n fun l => { l with probeMap := p }).recomputeLane n)

/-- PROBE_EN, 0 or above (R27); a write that leaves the value unchanged changes no state. -/
def applyProbeEn : Applier := fun k v s =>
  let p : Probe := Fin.ofNat 4 k
  let on : Bool := 0 < v
  let was := s.ptu.probe[p].state
  if on = (was ≠ .disabled) then some s
  else if on then some (s.updProbe p fun u => { u with state := .unknown })
  else
    let s1 := s.updProbe p fun u => { u with state := .disabled, outRun := 0, inRun := 0, spikeRun := 0 }
    some (if was = .valid then s1.recomputeLanes else s1)

/-- A temperature limit clamped into the physical range (R36). -/
def clampTemp (v : Int) : Int := clamp Config.tempMin Config.tempMax v

/-- A write of a unit's parameter returns the unit to ARMED and leaves its event bit (R36). -/
def updHot (f : Alarm → Alarm) (k : Nat) (s : State) : State :=
  s.updProbe (Fin.ofNat 4 k) fun u => { u with hot := { f u.hot with tripped := false } }

def updCold (f : Alarm → Alarm) (k : Nat) (s : State) : State :=
  s.updProbe (Fin.ofNat 4 k) fun u => { u with cold := { f u.cold with tripped := false } }

def applyHotMode : Applier := fun k v s => (modeOf v).map fun m => updHot (fun a => { a with mode := m }) k s

def applyColdMode : Applier := fun k v s => (modeOf v).map fun m => updCold (fun a => { a with mode := m }) k s

/-- A pending frame with some length above 0 (R42). -/
def someLength (f : Vector Slot 4) : Bool := f.toList.any fun k => k.len ≠ 0

/-- The pending frame replaced. -/
def State.withPending (s : State) (f : Vector Slot 4) : State := { s with mcs := { s.mcs with pendingFrame := f } }

/-- SLOTn_LEN changes the pending frame, unless every length would be 0 (R42). -/
def applySlotLen (n : Fin 4) : Applier := fun _ v s =>
  let f := upd s.mcs.pendingFrame n fun k => { k with len := clampNat 0 255 v }
  if someLength f then some (s.withPending f) else none

/-- SLOTn_RULE changes the pending frame (R42). -/
def applySlotRule (n : Fin 4) : Applier := fun _ v s =>
  (ruleOf v).map fun r => s.withPending (upd s.mcs.pendingFrame n fun k => { k with rule := r })

/-- TEST_PERIOD: 0 stops all sixteen timers; above 0 it starts them when they were stopped (R50). -/
def applyTestPeriod : Applier := fun _ v s =>
  let t := clampNat 0 1440 v
  let s1 := s.updPar fun p => { p with testPeriod := t }
  if t ≠ 0 ∧ s.par.testPeriod ≠ 0 then some s1
  else some { s1 with mcs := { s1.mcs with strip := mapAll s1.mcs.strip fun u => { u with periodicDue := s1.nextPeriod } } }

/-- ATTN_MASK: a bit above bit 5 is refused (R205, R207). -/
def applyAttnMask : Applier := fun _ v s =>
  if 0 ≤ v ∧ v < 64 then some (s.updPar fun p => { p with attnMask := byte v.toNat }) else none

/-! ### The rows -/

/-- T_ON (R6). -/
def applyTOn : Applier := storeLane 16 8191 LanePar.writeTOn

/-- NOISE_LIM (R6): taken at the next noise window end. -/
def applyNoiseLim : Applier := storeLane 1 8000 fun v p => { p with noiseLim := v }

/-- AZ_TOL (R4). -/
def applyAzTol : Applier := storeSite 0 255 fun v p => { p with azTol := v }

/-- AZ_STEP (R4): taken for the period that starts at the next expiry. -/
def applyAzStep : Applier := storeSite 1 255 fun v p => { p with azStep := v }

/-- W_LR (R80). -/
def applyWLr : Applier := storeLane 2 400 fun v p => { p with wLr := v }

/-- SPDTOL (R80). -/
def applySpdtol : Applier := storeLane 1 50 fun v p => { p with spdTol := v }

/-- MAXSP (R120). -/
def applyMaxsp : Applier := storeLane 100 3000 fun v p => { p with maxSp := v }

/-- MAXCLOSE (R120). -/
def applyMaxclose : Applier := storeLane 8000 160000 fun v p => { p with maxClose := v }

/-- GRP (R120). -/
def applyGrp : Applier := storeSite 50 500 fun v p => { p with grp := v }

/-- RDT (R94). -/
def applyRdt : Applier := storeLane 1 1000 fun v p => { p with rdt := v }

/-- TEMP_HOLD (R34): taken at the next start of a hold timer. -/
def applyTempHold : Applier := storeSite 0 3600 fun v p => { p with tempHold := v }

/-- HOT_TO (R36). -/
def applyHotTo : Applier := fun k v s => some (updHot (fun a => { a with trip := clampTemp v }) k s)

/-- HOT_TH (R36). -/
def applyHotTh : Applier := fun k v s => some (updHot (fun a => { a with hyst := clampTemp v }) k s)

/-- COLD_TO (R36). -/
def applyColdTo : Applier := fun k v s => some (updCold (fun a => { a with trip := clampTemp v }) k s)

/-- COLD_TH (R36). -/
def applyColdTh : Applier := fun k v s => some (updCold (fun a => { a with hyst := clampTemp v }) k s)

/-- TEST_LIMIT (R54). -/
def applyTestLimit : Applier := storeSite 1 65535 fun v p => { p with testLimit := v }

/-- MISS_LIM (R165): taken at the next miss report or contribution. -/
def applyMissLim : Applier := storeSite 1 15 fun v p => { p with missLim := v }

/-- HOLDOFF (R172): taken at the next start of a holdoff timer. -/
def applyHoldoff : Applier := storeSite 1 255 fun v p => { p with holdoff := v }

/-- T_ON (R6), as PARAM_WRITE. -/
def execTOn (x : Xfer) (rest : List Byte) (s : State) : Host.Outcome State Fault Refusal :=
  paramCommand .tOn applyTOn x rest s

/-- T_OFF (R6), as PARAM_WRITE. -/
def execTOff (x : Xfer) (rest : List Byte) (s : State) : Host.Outcome State Fault Refusal :=
  paramCommand .tOff applyTOff x rest s

/-- NB (R6), as PARAM_WRITE. -/
def execNb (x : Xfer) (rest : List Byte) (s : State) : Host.Outcome State Fault Refusal :=
  paramCommand .nb applyNb x rest s

/-- NOISE_LIM (R6), as PARAM_WRITE. -/
def execNoiseLim (x : Xfer) (rest : List Byte) (s : State) : Host.Outcome State Fault Refusal :=
  paramCommand .noiseLim applyNoiseLim x rest s

/-- AZL (R2), as PARAM_WRITE. -/
def execAzl (x : Xfer) (rest : List Byte) (s : State) : Host.Outcome State Fault Refusal :=
  paramCommand .azl applyAzl x rest s

/-- AZ_TOL (R4), as PARAM_WRITE. -/
def execAzTol (x : Xfer) (rest : List Byte) (s : State) : Host.Outcome State Fault Refusal :=
  paramCommand .azTol applyAzTol x rest s

/-- AZ_STEP (R4), as PARAM_WRITE. -/
def execAzStep (x : Xfer) (rest : List Byte) (s : State) : Host.Outcome State Fault Refusal :=
  paramCommand .azStep applyAzStep x rest s

/-- ENABLE (R176), as PARAM_WRITE. -/
def execEnable (x : Xfer) (rest : List Byte) (s : State) : Host.Outcome State Fault Refusal :=
  paramCommand .enable applyEnable x rest s

/-- W_LR (R80), as PARAM_WRITE. -/
def execWLr (x : Xfer) (rest : List Byte) (s : State) : Host.Outcome State Fault Refusal :=
  paramCommand .wLr applyWLr x rest s

/-- STRADDLE_EN (R80), as PARAM_WRITE. -/
def execStraddleEn (x : Xfer) (rest : List Byte) (s : State) : Host.Outcome State Fault Refusal :=
  paramCommand .straddleEn applyStraddleEn x rest s

/-- SPDTOL (R80), as PARAM_WRITE. -/
def execSpdtol (x : Xfer) (rest : List Byte) (s : State) : Host.Outcome State Fault Refusal :=
  paramCommand .spdtol applySpdtol x rest s

/-- MAXSP (R120), as PARAM_WRITE. -/
def execMaxsp (x : Xfer) (rest : List Byte) (s : State) : Host.Outcome State Fault Refusal :=
  paramCommand .maxsp applyMaxsp x rest s

/-- MAXCLOSE (R120), as PARAM_WRITE. -/
def execMaxclose (x : Xfer) (rest : List Byte) (s : State) : Host.Outcome State Fault Refusal :=
  paramCommand .maxclose applyMaxclose x rest s

/-- GRP (R120), as PARAM_WRITE. -/
def execGrp (x : Xfer) (rest : List Byte) (s : State) : Host.Outcome State Fault Refusal :=
  paramCommand .grp applyGrp x rest s

/-- RDT (R94), as PARAM_WRITE. -/
def execRdt (x : Xfer) (rest : List Byte) (s : State) : Host.Outcome State Fault Refusal :=
  paramCommand .rdt applyRdt x rest s

/-- PROBE_MAP (R34), as PARAM_WRITE. -/
def execProbeMap (x : Xfer) (rest : List Byte) (s : State) : Host.Outcome State Fault Refusal :=
  paramCommand .probeMap applyProbeMap x rest s

/-- PROBE_EN (R27), as PARAM_WRITE. -/
def execProbeEn (x : Xfer) (rest : List Byte) (s : State) : Host.Outcome State Fault Refusal :=
  paramCommand .probeEn applyProbeEn x rest s

/-- TEMP_HOLD (R34), as PARAM_WRITE. -/
def execTempHold (x : Xfer) (rest : List Byte) (s : State) : Host.Outcome State Fault Refusal :=
  paramCommand .tempHold applyTempHold x rest s

/-- HOT_TO (R36), as PARAM_WRITE. -/
def execHotTo (x : Xfer) (rest : List Byte) (s : State) : Host.Outcome State Fault Refusal :=
  paramCommand .hotTo applyHotTo x rest s

/-- HOT_TH (R36), as PARAM_WRITE. -/
def execHotTh (x : Xfer) (rest : List Byte) (s : State) : Host.Outcome State Fault Refusal :=
  paramCommand .hotTh applyHotTh x rest s

/-- HOT_MODE (R36), as PARAM_WRITE. -/
def execHotMode (x : Xfer) (rest : List Byte) (s : State) : Host.Outcome State Fault Refusal :=
  paramCommand .hotMode applyHotMode x rest s

/-- COLD_TO (R36), as PARAM_WRITE. -/
def execColdTo (x : Xfer) (rest : List Byte) (s : State) : Host.Outcome State Fault Refusal :=
  paramCommand .coldTo applyColdTo x rest s

/-- COLD_TH (R36), as PARAM_WRITE. -/
def execColdTh (x : Xfer) (rest : List Byte) (s : State) : Host.Outcome State Fault Refusal :=
  paramCommand .coldTh applyColdTh x rest s

/-- COLD_MODE (R36), as PARAM_WRITE. -/
def execColdMode (x : Xfer) (rest : List Byte) (s : State) : Host.Outcome State Fault Refusal :=
  paramCommand .coldMode applyColdMode x rest s

/-- SLOTn_LEN (R42), as PARAM_WRITE. -/
def execSlotLen (n : Fin 4) (x : Xfer) (rest : List Byte) (s : State) : Host.Outcome State Fault Refusal :=
  paramCommand (.slotLen n) (applySlotLen n) x rest s

/-- SLOTn_RULE (R42), as PARAM_WRITE. -/
def execSlotRule (n : Fin 4) (x : Xfer) (rest : List Byte) (s : State) : Host.Outcome State Fault Refusal :=
  paramCommand (.slotRule n) (applySlotRule n) x rest s

/-- TEST_LIMIT (R54), as PARAM_WRITE. -/
def execTestLimit (x : Xfer) (rest : List Byte) (s : State) : Host.Outcome State Fault Refusal :=
  paramCommand .testLimit applyTestLimit x rest s

/-- TEST_PERIOD (R50), as PARAM_WRITE. -/
def execTestPeriod (x : Xfer) (rest : List Byte) (s : State) : Host.Outcome State Fault Refusal :=
  paramCommand .testPeriod applyTestPeriod x rest s

/-- MISS_LIM (R165), as PARAM_WRITE. -/
def execMissLim (x : Xfer) (rest : List Byte) (s : State) : Host.Outcome State Fault Refusal :=
  paramCommand .missLim applyMissLim x rest s

/-- HOLDOFF (R172), as PARAM_WRITE. -/
def execHoldoff (x : Xfer) (rest : List Byte) (s : State) : Host.Outcome State Fault Refusal :=
  paramCommand .holdoff applyHoldoff x rest s

/-- ATTN_MASK (R205), as PARAM_WRITE. -/
def execAttnMask (x : Xfer) (rest : List Byte) (s : State) : Host.Outcome State Fault Refusal :=
  paramCommand .attnMask applyAttnMask x rest s

end Sys2Proof.Machine
end

