-- ==== Sys2Proof/Machine/Vrt.lean ====
section
/-! DEFINITION. Chapter 7: the eleven record commands. -/

namespace Sys2Proof.Machine

/-! ### Layouts (R130) -/

/-- A listed axle entry, 28 bytes. -/
def AxleEntry.bytes (a : AxleEntry) : List Byte :=
  bytes4 a.time.toNat ++ bytes4 a.speed ++ bytes4 a.load ++ bytes4 a.uLoad ++ bytes4 a.dLoad ++ bytes2 a.left ++
    bytes2 a.right ++ bytes4 a.flags.toNat

/-- A group, 6 bytes. -/
def Group.bytes (g : Group) : List Byte := byte g.first :: byte g.count :: bytes4 g.sum

/-- The REC_HEAD payload: 46 bytes, then the groups and the spacings. -/
def Record.headBytes (r : Record) : List Byte :=
  bytes2 r.number ++ [r.statusByte, byte (bit 1 r.overflow + bit 2 r.calChanged), byte (r.straddle.getD 0), byte r.count,
    byte r.axles.length, byte r.classCode] ++ bytes2 r.generation ++ bytes4 r.gross ++ bytes4 r.meanSpeed ++
    bytes4 r.firstTime.toNat ++ bytes4 r.lastTime.toNat ++ bytes4 (r.closeTime.getD 0).toNat ++ signed2 r.laneTemp ++
    [byte r.laneValidity.code] ++ bytes4 r.calCounter ++ bytes4 r.reasons.toNat ++ bytes4 (r.tag.getD 0).toNat ++
    [byte r.groups.length] ++ r.groups.flatMap Group.bytes ++ r.spacings.flatMap bytes2

/-- The held count: the live records that are held (R124). -/
def Vrt.heldCount (v : Vrt) : Nat := v.live.countP fun r => r.held

/-- The reply of REC_HOLD, REC_RELEASE and REC_TAG: number, record status byte and held count after the command. -/
def acceptMark (n : Nat) (s : State) : Reply × State :=
  match s.vrt.find n with
  | some r => accept (bytes2 n ++ [r.statusByte, byte s.vrt.heldCount]) s
  | none => refuse .noRecord s

/-! ### Acceptance (R131) -/

/-- A command on one record: payload length, then the record of the number at offset 0. -/
def recordCommand (len : Nat) (p : List Byte) (s : State) (run : Record → Reply × State) : Reply × State :=
  if p.length ≠ len then refuse .badValue s
  else
    match s.vrt.find (u16 p 0) with
    | some r => run r
    | none => refuse .noRecord s

/-- The state check of a record command. -/
def inState (r : Record) (st : RecState) (s : State) (run : Reply × State) : Reply × State :=
  if r.state = st then run else refuse .wrongState s

/-- The record of a number changed by f. -/
def State.updRecord (s : State) (n : Nat) (f : Record → Record) : State := s.updVrt fun v => v.update n f

/-! ### Reading -/

/-- A record matches REC_LIST's two masks (R132). -/
def Record.listed (r : Record) (lanes states : Byte) : Bool :=
  lanes.getLsbD r.lane.val && states.getLsbD (if r.state = .complete then 1 else 0)

/-- REC_LIST (R132). -/
def recList (p : List Byte) (s : State) : Reply × State :=
  match p with
  | [lanes, states] =>
    if lanes &&& 0xF0 ≠ 0 ∨ states &&& 0xFC ≠ 0 then refuse .badValue s
    else
      let rs := s.vrt.live.filter fun r => r.listed lanes states
      accept (byte rs.length :: rs.flatMap fun r => bytes2 r.number ++ [r.statusByte]) s
  | _ => refuse .badValue s

/-- REC_HEAD (R133): the header as it stands; a COMPLETE record becomes read (R125). -/
def recHead (p : List Byte) (s : State) : Reply × State :=
  recordCommand 2 p s fun r =>
    accept r.headBytes
      (s.updRecord r.number fun r => if r.state = .complete then { r with unread := false } else r)

/-- REC_AXLES (R134). -/
def recAxles (p : List Byte) (s : State) : Reply × State :=
  let first := u8 p 2
  let count := u8 p 3
  if p.length ≠ 4 ∨ 11 < first ∨ count = 0 ∨ 8 < count then refuse .badValue s
  else
    recordCommand 4 p s fun r =>
      if r.axles.length ≤ first then refuse .badValue s
      else
        let as := (r.axles.drop first).take count
        accept (bytes2 r.number ++ [byte first, byte as.length] ++ as.flatMap AxleEntry.bytes) s

/-! ### Holding and tagging -/

/-- REC_HOLD (R135): at most 38 records are held. -/
def recHold (p : List Byte) (s : State) : Reply × State :=
  recordCommand 2 p s fun r =>
    if r.held then acceptMark r.number s
    else if s.vrt.heldCount < Config.heldMax then
      acceptMark r.number (s.updRecord r.number fun r => { r with held := true })
    else refuse .holdLimit s

/-- REC_RELEASE (R136). -/
def recRelease (p : List Byte) (s : State) : Reply × State :=
  recordCommand 2 p s fun r => acceptMark r.number (s.updRecord r.number fun r => { r with held := false })

/-- REC_TAG (R137): action 1 sets the tag, action 0 clears it. -/
def recTag (p : List Byte) (s : State) : Reply × State :=
  if p.length ≠ 7 ∨ 1 < u8 p 2 then refuse .badValue s
  else
    recordCommand 7 p s fun r =>
      let tag := if u8 p 2 = 1 then some (BitVec.ofNat 32 (u32 p 3)) else none
      acceptMark r.number (s.updRecord r.number fun r => { r with tag := tag })

/-! ### Closing, retiring, reclassing -/

/-- REC_CLOSE (R138, R119): the record closes as by the VAU, with the command's site time. -/
def recClose (p : List Byte) (s : State) : Reply × State :=
  recordCommand 2 p s fun r =>
    inState r .opened s
      (let s1 := s.closeRecord r.lane r.number
      match s1.vrt.find r.number with
      | some r1 => accept (bytes2 r.number ++ [r1.statusByte, byte r1.classCode]) s1
      | none => refuse .noRecord s)

/-- REC_RETIRE (R139). -/
def recRetire (p : List Byte) (s : State) : Reply × State :=
  recordCommand 2 p s fun r => inState r .complete s (accept (bytes2 r.number) (s.updVrt fun v => v.free r.number))

/-- REC_RECLASS (R140). -/
def recReclass (p : List Byte) (s : State) : Reply × State :=
  recordCommand 2 p s fun r =>
    inState r .complete s
      (let r1 := r.classed s.cls
      accept (bytes2 r.number ++ [byte r1.classCode] ++ bytes2 r1.generation) (s.updRecord r.number fun _ => r1))

/-! ### Merging and splitting (R141 to R146) -/

/-- The figures that a merge or split recomputes, steps 1 to 7 of R141. -/
def Record.refigured (r : Record) (grp : Nat) (c : Cls) : Record :=
  let straddles := r.axles.any fun a => hasCode a.flags flagStraddle
  let r : Record := { r.grouped grp with
    count := r.axles.length
    gross := (r.axles.map (·.load)).sum
    meanSpeed := meanOfSpeeds r.axles
    firstTime := (r.axles.head?.map (·.time)).getD r.firstTime
    lastTime := (r.axles.getLast?.map (·.time)).getD r.lastTime
    straddle := if straddles then some r.lane.val else none }
  r.classed c

/-- The joining spacing of a merge (R143 step 2). -/
def joinSpacing (a b : Record) : Nat :=
  match a.axles.getLast?, b.axles.head? with
  | some x, some y => spacing x.time x.speed y.time y.speed
  | _, _ => 65535

/-- The merged record in A's place (R143, and the held attribute and tag of R144). -/
def Record.merge (a b : Record) (grp : Nat) (c : Cls) : Record :=
  let changed := a.calChanged || b.calChanged || a.calCounter ≠ b.calCounter
  let m : Record := { a with
    axles := a.axles ++ b.axles
    spacings := a.spacings ++ joinSpacing a b :: b.spacings
    calChanged := changed
    closeTime := b.closeTime
    held := a.held || b.held
    tag := if a.tag.isSome then a.tag else b.tag
    unread := true }
  { m.refigured grp c with
    reasons := a.reasons ||| b.reasons ||| codeIf changed codeCalChanged ||| codeHostEdited
    certified := false }

/-- B is the next record of its lane after A in the opening-order list (R142). -/
def Vrt.adjacent (v : Vrt) (a b : Record) : Bool :=
  a.lane = b.lane &&
    (((v.live.filter fun r => r.lane = a.lane).dropWhile fun r => r.number ≠ a.number).drop 1).head?.map (·.number) =
      some b.number

/-- A takes B's place in the completion-order list and B leaves both lists (R144). -/
def Vrt.joined (v : Vrt) (a b : Nat) (m : Record) : Vrt :=
  { v with
    live := (v.live.map fun r => if r.number = a then m else r).filter fun r => r.number ≠ b
    completed := (v.completed.filter fun k => k ≠ a).map fun k => if k = b then a else k }

/-- REC_MERGE (R142 to R144). -/
def recMerge (p : List Byte) (s : State) : Reply × State :=
  if p.length ≠ 4 ∨ u16 p 0 = u16 p 2 then refuse .badValue s
  else
    match s.vrt.find (u16 p 0), s.vrt.find (u16 p 2) with
    | some a, some b =>
      if a.state ≠ .complete ∨ b.state ≠ .complete then refuse .wrongState s
      else if !s.vrt.adjacent a b then refuse .notAdjacent s
      else if a.overflow ∨ b.overflow ∨ Config.listedMax < a.axles.length + b.axles.length then refuse .tooManyAxles s
      else
        let m := a.merge b s.par.grp s.cls
        accept (bytes2 a.number ++ [m.statusByte]) (s.updVrt fun v => v.joined a.number b.number m)
    | _, _ => refuse .noRecord s

/-- The reason set of a part of a split (R146). -/
def Record.splitReasons (r : Record) : CodeSet :=
  uncertifyingFlags r.axles ||| codeIf r.calChanged codeCalChanged ||| codeIf r.straddle.isSome flagStraddle |||
    codeHostEdited

/-- A part of a split with its own axles and spacings, recomputed (R146, R141). -/
def Record.part (r : Record) (axles : List AxleEntry) (spacings : List Nat) (grp : Nat) (c : Cls) : Record :=
  let r := ({ r with axles := axles, spacings := spacings, overflow := false, unread := true } : Record).refigured grp c
  { r with reasons := r.splitReasons, certified := false }

/-- The part that stays in A: axles 0 to k − 1 (R146). -/
def Record.splitHead (r : Record) (k grp : Nat) (c : Cls) : Record :=
  r.part (r.axles.take k) (r.spacings.take (k - 1)) grp c

/-- The new record N: axles k onward, its own number, not held, no tag (R146). -/
def Record.splitTail (r : Record) (k number grp : Nat) (c : Cls) : Record :=
  ({ r with number := number, held := false, tag := none } : Record).part (r.axles.drop k) (r.spacings.drop k) grp c

/-- N stands directly after A in both lists (R127, R128, R146). -/
def Vrt.divided (v : Vrt) (a : Nat) (head tail : Record) : Vrt :=
  { live := v.live.flatMap fun r => if r.number = a then [head, tail] else [r]
    completed := v.completed.flatMap fun k => if k = a then [a, tail.number] else [k]
    counter := nextNumber tail.number }

/-- REC_SPLIT (R145, R146). -/
def recSplit (p : List Byte) (s : State) : Reply × State :=
  let k := u8 p 2
  if p.length ≠ 3 ∨ 11 < k then refuse .badValue s
  else
    recordCommand 3 p s fun a =>
      inState a .complete s
        (if k = 0 ∨ a.axles.length ≤ k ∨ a.overflow then refuse .badValue s
        else if Config.tableSize ≤ s.vrt.live.length then refuse .tableFull s
        else
          let number := s.vrt.nextFree
          let head := a.splitHead k s.par.grp s.cls
          let tail := a.splitTail k number s.par.grp s.cls
          accept (bytes2 a.number ++ bytes2 number) (s.updVrt fun v => v.divided a.number head tail))

/-! ### The rows -/

/-- REC_LIST, code 10h. -/
def execRecList (x : Xfer) (p : List Byte) (s : State) : Host.Outcome State Fault Refusal :=
  addressedCommand 0x10 x p recList s

/-- REC_HEAD, code 11h. -/
def execRecHead (x : Xfer) (p : List Byte) (s : State) : Host.Outcome State Fault Refusal :=
  addressedCommand 0x11 x p recHead s

/-- REC_AXLES, code 12h. -/
def execRecAxles (x : Xfer) (p : List Byte) (s : State) : Host.Outcome State Fault Refusal :=
  addressedCommand 0x12 x p recAxles s

/-- REC_HOLD, code 13h. -/
def execRecHold (x : Xfer) (p : List Byte) (s : State) : Host.Outcome State Fault Refusal :=
  addressedCommand 0x13 x p recHold s

/-- REC_RELEASE, code 14h. -/
def execRecRelease (x : Xfer) (p : List Byte) (s : State) : Host.Outcome State Fault Refusal :=
  addressedCommand 0x14 x p recRelease s

/-- REC_TAG, code 15h. -/
def execRecTag (x : Xfer) (p : List Byte) (s : State) : Host.Outcome State Fault Refusal :=
  addressedCommand 0x15 x p recTag s

/-- REC_CLOSE, code 16h. -/
def execRecClose (x : Xfer) (p : List Byte) (s : State) : Host.Outcome State Fault Refusal :=
  addressedCommand 0x16 x p recClose s

/-- REC_RETIRE, code 17h. -/
def execRecRetire (x : Xfer) (p : List Byte) (s : State) : Host.Outcome State Fault Refusal :=
  addressedCommand 0x17 x p recRetire s

/-- REC_MERGE, code 18h. -/
def execRecMerge (x : Xfer) (p : List Byte) (s : State) : Host.Outcome State Fault Refusal :=
  addressedCommand 0x18 x p recMerge s

/-- REC_SPLIT, code 19h. -/
def execRecSplit (x : Xfer) (p : List Byte) (s : State) : Host.Outcome State Fault Refusal :=
  addressedCommand 0x19 x p recSplit s

/-- REC_RECLASS, code 1Ah. -/
def execRecReclass (x : Xfer) (p : List Byte) (s : State) : Host.Outcome State Fault Refusal :=
  addressedCommand 0x1A x p recReclass s

end Sys2Proof.Machine
end

