-- ==== Sys2Proof/Machine/Cpt.lean ====
section
/-! DEFINITION. Chapter 11: frames that reach no block, and the command port's own commands: NOP, STATUS, PARAM_READ,
COUNTER_READ, SYNC, SYNC_READ and TEMP_STATUS. -/

namespace Sys2Proof.Machine

/-! ### Frames that reach no block (R202) -/

/-- The status code that a bad frame earns (R202, R207). -/
def FrameError.status : FrameError → Status
  | .length => .linkLength
  | .crc => .linkCrc
  | .code => .unknownCmd
  | .param => .badValue

/-- A transaction whose frame reaches no block: the addressed node clocks out its response and replaces it by the error's,
any other ignores it (R199, R202, R203). -/
def State.badFrame (s : State) (bytes : List Byte) (st : Status) (echo : Byte) : State :=
  match bytes with
  | [] => s.release
  | addr :: _ =>
    match s.taker addr with
    | .addressed => (s.drive bytes.length).respond echo (Reply.refuse st)
    | .broadcast | .nobody => s.release

/-- UNKNOWN_CMD (R202): a transaction that is not one of a known command. The bytes of a sound frame are no such transaction
(log 19). -/
def execUnknownCmd (bytes : List Byte) (s : State) : Host.Outcome State Fault Refusal :=
  match readFrame bytes with
  | .sound _ => .fault .soundFrame
  | .bad e echo => .next (s.badFrame bytes (FrameError.status e) echo)

/-! ### NOP (R202) -/

/-- NOP with a payload other than the one byte 01h. -/
def nop (p : List Byte) (s : State) : Reply × State := whenEmpty p s (accept [] s)

/-- NOP, code 00h; a broadcast NOP does nothing (R203). -/
def execNop (x : Xfer) (p : List Byte) (s : State) : Host.Outcome State Fault Refusal :=
  .next (hostCommand 0x00 true x p (nop p) s)

/-- NOP with the byte 01h keeps the response that it clocks out (R202). -/
def execNopRepeat (x : Xfer) (s : State) : Host.Outcome State Fault Refusal :=
  .next
    (match s.taker x.addr with
    | .addressed => s.drive (5 + x.filler.length)
    | .broadcast | .nobody => s.release)

/-! ### STATUS (R206) -/

/-- The live records in a state. -/
def Vrt.countState (v : Vrt) (st : RecState) : Nat := v.live.countP fun r => r.state = st

/-- The 17 bytes of STATUS. -/
def statusBytes (s : State) : List Byte :=
  [s.causes, s.par.attnMask, s.cst.stateByte, byte (Config.tableSize - s.vrt.live.length), byte (s.vrt.countState .opened),
    byte (s.vrt.countState .complete), byte s.vrt.heldCount] ++ bytes2 s.vrt.counter ++ bytes4 s.cst.counter ++
    bytes4 s.siteTime.toNat

/-- The three latches cleared (R206). -/
def State.clearLatches (s : State) : State :=
  { s with cpt := { s.cpt with calEvent := false, unrecordedLatch := false, scheduleShort := false } }

/-- STATUS: the response, then the three latches are cleared (R206). -/
def status (p : List Byte) (s : State) : Reply × State := whenEmpty p s (accept (statusBytes s) s.clearLatches)

/-- STATUS, code 01h. -/
def execStatus (x : Xfer) (p : List Byte) (s : State) : Host.Outcome State Fault Refusal :=
  addressedCommand 0x01 x p status s

/-! ### PARAM_READ (R208) -/

/-- PARAM_READ: identifier, index and the value as it stands. -/
def paramRead (p : List Byte) (s : State) : Reply × State :=
  match p with
  | [ident, k] =>
    match Param.ofId ident with
    | some q =>
      if k.toNat < (paramScope q).size then accept (ident :: k :: signed4 (s.paramValue q k.toNat)) s
      else refuse .badValue s
    | none => refuse .badValue s
  | _ => refuse .badValue s

/-- PARAM_READ, code 03h. -/
def execParamRead (x : Xfer) (p : List Byte) (s : State) : Host.Outcome State Fault Refusal :=
  addressedCommand 0x03 x p paramRead s

/-! ### COUNTER_READ (R209) -/

/-- The counters of a strip in R209's order. -/
def State.stripCounters (s : State) (i : Strip) : List Nat :=
  let u := s.scu[i]
  let t := s.mcs.strip[i]
  [u.pulses, u.clippedPulses, u.longPulses, u.noises, t.passed, t.failed, t.aborted, s.shu[i].misses]

/-- The counters of a lane in R209's order. -/
def State.laneCounters (s : State) (n : Lane) : List Nat :=
  let l := s.vau.lane[n]
  [l.recorded, l.unrecorded, l.evicted, s.apu.orphans[n]]

def State.clearStripCounters (s : State) (i : Strip) : State :=
  ((s.updScu i fun u => { u with pulses := 0, clippedPulses := 0, longPulses := 0, noises := 0 }).updTests i
    fun t => { t with passed := 0, failed := 0, aborted := 0 }).updShu i fun h => { h with misses := 0 }

def State.clearLaneCounters (s : State) (n : Lane) : State :=
  let s := s.updLane n fun l => { l with recorded := 0, unrecorded := 0, evicted := 0 }
  { s with apu := { s.apu with orphans := upd s.apu.orphans n fun _ => 0 } }

/-- COUNTER_READ: the counters of a strip or a lane, which are then cleared. -/
def counterRead (p : List Byte) (s : State) : Reply × State :=
  match p with
  | [group, k] =>
    match group.toNat, index 16 k.toNat, index 4 k.toNat with
    | 0, some i, _ => accept ([group, k] ++ (s.stripCounters i).flatMap bytes2) (s.clearStripCounters i)
    | 1, _, some n => accept ([group, k] ++ (s.laneCounters n).flatMap bytes2) (s.clearLaneCounters n)
    | _, _, _ => refuse .badValue s
  | _ => refuse .badValue s

/-- COUNTER_READ, code 04h. -/
def execCounterRead (x : Xfer) (p : List Byte) (s : State) : Host.Outcome State Fault Refusal :=
  addressedCommand 0x04 x p counterRead s

/-! ### SYNC and SYNC_READ (R210) -/

/-- SYNC: the sync latch takes the site time. -/
def sync (p : List Byte) (s : State) : Reply × State :=
  whenEmpty p s (accept (bytes4 s.siteTime.toNat) { s with cpt := { s.cpt with syncLatch := some s.siteTime } })

/-- SYNC, code 05h; it may be broadcast (R203, R210). -/
def execSync (x : Xfer) (p : List Byte) (s : State) : Host.Outcome State Fault Refusal :=
  .next (hostCommand 0x05 true x p (sync p) s)

/-- SYNC_READ: a presence byte and the latched time, 0 when empty. -/
def syncRead (p : List Byte) (s : State) : Reply × State :=
  whenEmpty p s (accept (byte (bit 1 s.cpt.syncLatch.isSome) :: bytes4 (s.cpt.syncLatch.getD 0).toNat) s)

/-- SYNC_READ, code 06h. -/
def execSyncRead (x : Xfer) (p : List Byte) (s : State) : Host.Outcome State Fault Refusal :=
  addressedCommand 0x06 x p syncRead s

/-! ### TEMP_STATUS (R31, R209) -/

def ProbeState.code : ProbeState → Nat
  | .unknown => 0
  | .valid => 1
  | .fault => 2
  | .disabled => 3

def TempSource.code : TempSource → Nat
  | .mapped => 0
  | .mean => 1
  | .none => 2

/-- A probe block, 11 bytes. -/
def ProbeUnit.bytes (u : ProbeUnit) : List Byte :=
  byte u.state.code :: (signed2 u.last ++ signed2 u.filt ++ signed2 u.fMin ++ signed2 u.fMax) ++
    [byte (bit 1 u.hot.tripped + bit 2 u.cold.tripped + bit 4 u.hot.event + bit 8 u.cold.event + bit 16 u.faultEvent),
      byte (u.hot.hotMode.code + 4 * u.cold.coldMode.code)]

/-- A lane block, 3 bytes. -/
def LaneTemp.bytes (l : LaneTemp) : List Byte := signed2 l.tl ++ [byte (l.validity.code + 4 * l.source.code)]

/-- The 56 bytes of TEMP_STATUS. -/
def tempStatusBytes (p : Ptu) : List Byte := p.probe.toList.flatMap ProbeUnit.bytes ++ p.lane.toList.flatMap LaneTemp.bytes

/-- A probe after the read: minimum and maximum at F, event bits clear (R31). -/
def ProbeUnit.seen (u : ProbeUnit) : ProbeUnit :=
  { u with
    fMin := u.filt
    fMax := u.filt
    hot := { u.hot with event := false }
    cold := { u.cold with event := false }
    faultEvent := false }

/-- TEMP_STATUS: the response, then the read's clears for every probe (R31). -/
def tempStatus (p : List Byte) (s : State) : Reply × State :=
  whenEmpty p s
    (accept (tempStatusBytes s.ptu) { s with ptu := { s.ptu with probe := mapAll s.ptu.probe ProbeUnit.seen } })

/-- TEMP_STATUS, code 2Ch. -/
def execTempStatus (x : Xfer) (p : List Byte) (s : State) : Host.Outcome State Fault Refusal :=
  addressedCommand 0x2C x p tempStatus s

end Sys2Proof.Machine
end

