-- ==== Sys2Proof/Machine/Reset.lean ====
section
/-! DEFINITION. Chapter 11, section 11.7: device reset and traffic reset. -/

namespace Sys2Proof.Machine

/-! ### Device reset (R212) -/

/-- What a store that a device reset cuts off leaves in the memory (R184, R197): before the record write the spare slot may
hold anything, after it the record stands as the store wrote it. The record write belongs to the completion (R192, R193), so
the record has been written only if the completion was due (R190); a store cut before that leaves the record as it was.
Without a store in flight nothing is written (log 8). -/
def State.cutStore (s : State) (c : StoreCut) : Nonvolatile :=
  let k := s.cst
  if k.store.isSome then
    match c with
    | .recordAsItWas spare => k.nv.writeSpare spare
    | .recordWritten readBack =>
      if s.storeDue then k.nv.stored readBack k.staging.crc else k.nv.writeSpare (imageBytes readBack k.staging.crc)
  else k.nv

/-- DEVICE_RESET (R212): every block at its reset values, the node number from the straps; the memory, the CALSW input and
the queue of waiting commands stay (log 8, log 26). -/
def execDeviceReset (straps : BitVec 2) (cut : StoreCut) (s : State) : Host.Outcome State Fault Refusal :=
  .next (State.atReset straps (s.cutStore cut) s.cst.calsw s.pending)

/-! ### Traffic reset (R211) -/

/-- A strip drops its pulse and ends its standing; the idle wait starts afresh if it had either (R22). -/
def Scu.trafficReset (u : Scu) : Scu :=
  { u with
    pulse := none
    standing := none
    idleWait := if u.pulse.isSome || u.standing.isSome then 0 else u.idleWait }

/-- The MCS aborts the test in flight, whose slot runs on with no work, and empties its queue (R56, R59). -/
def State.dropTests (s : State) : State :=
  let s :=
    match s.mcs.flight with
    | some f => ((s.abortTest f).setWork .stopped)
    | none => s
  { s with mcs := { s.mcs with queue := [] } }

/-- The APU empties its buffers and queues and keeps the orphan counters (R82); a record in transit goes with the old traffic
(log 5). -/
def Apu.trafficReset (a : Apu) : Apu := { Apu.reset with orphans := a.orphans }

/-- The lane contexts become EMPTY (R122). -/
def Vau.trafficReset (v : Vau) : Vau := { v with lane := mapAll v.lane fun l => { l with ctx := .empty } }

/-- Every entry becomes FREE; the record number counter stays (R148). -/
def Vrt.trafficReset (v : Vrt) : Vrt := { Vrt.reset with counter := v.counter }

/-- The whole traffic reset, one event (R211). -/
def State.trafficReset (s : State) : State :=
  let s := s.dropTests
  { s with
    scu := mapAll s.scu Scu.trafficReset
    apu := s.apu.trafficReset
    vau := s.vau.trafficReset
    vrt := s.vrt.trafficReset
    shu := mapAll s.shu fun h => { h with missCount := 0 } }

/-- TRAFFIC_RESET (R211): the response is the record number counter after the reset. -/
def trafficReset (p : List Byte) (s : State) : Reply × State :=
  whenEmpty p s (accept (bytes2 s.vrt.counter) s.trafficReset)

/-- TRAFFIC_RESET, code 07h. -/
def execTrafficReset (x : Xfer) (p : List Byte) (s : State) : Host.Outcome State Fault Refusal :=
  addressedCommand 0x07 x p trafficReset s

end Sys2Proof.Machine
end

