-- ==== Sys2Proof/Machine/Dispatch.lean ====
section
/-! DEFINITION. The meaning of every command, one arm per constructor of `Instr`. -/

namespace Sys2Proof.Machine

/-- The effect of a command on everything but the queue. -/
def exec (i : Instr) (s : State) : Host.Outcome State Fault Refusal :=
  match i with
  | .sample j code => Sys2Proof.Machine.execSample j code s
  | .normalEnd j code => Sys2Proof.Machine.execNormalEnd j code s
  | .longCut j code => Sys2Proof.Machine.execLongCut j code s
  | .standingEnd j code => Sys2Proof.Machine.execStandingEnd j code s
  | .settlingEnd j code => Sys2Proof.Machine.execSettlingEnd j code s
  | .autoZeroStep j => Sys2Proof.Machine.execAutoZeroStep j s
  | .pinnedTimerExpiry j => Sys2Proof.Machine.execPinnedTimerExpiry j s
  | .standingTimerExpiry j => Sys2Proof.Machine.execStandingTimerExpiry j s
  | .noiseWindowEnd j => Sys2Proof.Machine.execNoiseWindowEnd j s
  | .pulseArrival j => Sys2Proof.Machine.execPulseArrival j s
  | .loneExpiry j k => Sys2Proof.Machine.execLoneExpiry j k s
  | .entryExpiry n k => Sys2Proof.Machine.execEntryExpiry n k s
  | .closeDeadlineExpiry n => Sys2Proof.Machine.execCloseDeadlineExpiry n s
  | .slotBoundary result => Sys2Proof.Machine.execSlotBoundary result s
  | .periodicTimerExpiry j => Sys2Proof.Machine.execPeriodicTimerExpiry j s
  | .holdTimerExpiry n => Sys2Proof.Machine.execHoldTimerExpiry n s
  | .holdoffExpiry j => Sys2Proof.Machine.execHoldoffExpiry j s
  | .storeCompletion readBack => Sys2Proof.Machine.execStoreCompletion readBack s
  | .switchPositionTaken => Sys2Proof.Machine.execSwitchPositionTaken s
  | .deviceReset straps cut => Sys2Proof.Machine.execDeviceReset straps cut s
  | .loadCompletion => Sys2Proof.Machine.execLoadCompletion s
  | .unknownCmd bytes => Sys2Proof.Machine.execUnknownCmd bytes s
  | .nop x payload => Sys2Proof.Machine.execNop x payload s
  | .nopRepeat x => Sys2Proof.Machine.execNopRepeat x s
  | .status x payload => Sys2Proof.Machine.execStatus x payload s
  | .paramRead x payload => Sys2Proof.Machine.execParamRead x payload s
  | .tOn x rest => Sys2Proof.Machine.execTOn x rest s
  | .tOff x rest => Sys2Proof.Machine.execTOff x rest s
  | .nb x rest => Sys2Proof.Machine.execNb x rest s
  | .noiseLim x rest => Sys2Proof.Machine.execNoiseLim x rest s
  | .azl x rest => Sys2Proof.Machine.execAzl x rest s
  | .azTol x rest => Sys2Proof.Machine.execAzTol x rest s
  | .azStep x rest => Sys2Proof.Machine.execAzStep x rest s
  | .enable x rest => Sys2Proof.Machine.execEnable x rest s
  | .wLr x rest => Sys2Proof.Machine.execWLr x rest s
  | .straddleEn x rest => Sys2Proof.Machine.execStraddleEn x rest s
  | .spdtol x rest => Sys2Proof.Machine.execSpdtol x rest s
  | .maxsp x rest => Sys2Proof.Machine.execMaxsp x rest s
  | .maxclose x rest => Sys2Proof.Machine.execMaxclose x rest s
  | .grp x rest => Sys2Proof.Machine.execGrp x rest s
  | .rdt x rest => Sys2Proof.Machine.execRdt x rest s
  | .probeMap x rest => Sys2Proof.Machine.execProbeMap x rest s
  | .probeEn x rest => Sys2Proof.Machine.execProbeEn x rest s
  | .tempHold x rest => Sys2Proof.Machine.execTempHold x rest s
  | .hotTo x rest => Sys2Proof.Machine.execHotTo x rest s
  | .hotTh x rest => Sys2Proof.Machine.execHotTh x rest s
  | .hotMode x rest => Sys2Proof.Machine.execHotMode x rest s
  | .coldTo x rest => Sys2Proof.Machine.execColdTo x rest s
  | .coldTh x rest => Sys2Proof.Machine.execColdTh x rest s
  | .coldMode x rest => Sys2Proof.Machine.execColdMode x rest s
  | .slotLen n x rest => Sys2Proof.Machine.execSlotLen n x rest s
  | .slotRule n x rest => Sys2Proof.Machine.execSlotRule n x rest s
  | .testLimit x rest => Sys2Proof.Machine.execTestLimit x rest s
  | .testPeriod x rest => Sys2Proof.Machine.execTestPeriod x rest s
  | .missLim x rest => Sys2Proof.Machine.execMissLim x rest s
  | .holdoff x rest => Sys2Proof.Machine.execHoldoff x rest s
  | .attnMask x rest => Sys2Proof.Machine.execAttnMask x rest s
  | .counterRead x payload => Sys2Proof.Machine.execCounterRead x payload s
  | .sync x payload => Sys2Proof.Machine.execSync x payload s
  | .syncRead x payload => Sys2Proof.Machine.execSyncRead x payload s
  | .trafficReset x payload => Sys2Proof.Machine.execTrafficReset x payload s
  | .recList x payload => Sys2Proof.Machine.execRecList x payload s
  | .recHead x payload => Sys2Proof.Machine.execRecHead x payload s
  | .recAxles x payload => Sys2Proof.Machine.execRecAxles x payload s
  | .recHold x payload => Sys2Proof.Machine.execRecHold x payload s
  | .recRelease x payload => Sys2Proof.Machine.execRecRelease x payload s
  | .recTag x payload => Sys2Proof.Machine.execRecTag x payload s
  | .recClose x payload => Sys2Proof.Machine.execRecClose x payload s
  | .recRetire x payload => Sys2Proof.Machine.execRecRetire x payload s
  | .recReclass x payload => Sys2Proof.Machine.execRecReclass x payload s
  | .recMerge x payload => Sys2Proof.Machine.execRecMerge x payload s
  | .recSplit x payload => Sys2Proof.Machine.execRecSplit x payload s
  | .classWrite x payload => Sys2Proof.Machine.execClassWrite x payload s
  | .classClear x payload => Sys2Proof.Machine.execClassClear x payload s
  | .classRead x payload => Sys2Proof.Machine.execClassRead x payload s
  | .classSwap x payload => Sys2Proof.Machine.execClassSwap x payload s
  | .stripRemove x payload => Sys2Proof.Machine.execStripRemove x payload s
  | .stripRestore x payload => Sys2Proof.Machine.execStripRestore x payload s
  | .stripTest x payload => Sys2Proof.Machine.execStripTest x payload s
  | .stripStatus x payload => Sys2Proof.Machine.execStripStatus x payload s
  | .tempStatus x payload => Sys2Proof.Machine.execTempStatus x payload s
  | .calWrite x payload => Sys2Proof.Machine.execCalWrite x payload s
  | .calLoad x payload => Sys2Proof.Machine.execCalLoad x payload s
  | .calRead x payload => Sys2Proof.Machine.execCalRead x payload s
  | .calCommit x payload => Sys2Proof.Machine.execCalCommit x payload s
  | .trimSet x payload => Sys2Proof.Machine.execTrimSet x payload s
  | .trimStep x payload => Sys2Proof.Machine.execTrimStep x payload s
  | .calswInputChange closed => Sys2Proof.Machine.execCalswInputChange closed s

end Sys2Proof.Machine
end

