-- ==== Sys2Proof/Machine/Idle.lean ====
section
/-! DEFINITION. What the part does of itself when no command waits: the first event that is due, or one tu of site time
(log 2). -/

namespace Sys2Proof.Machine

/-- The first element of a list that is due, as its command. -/
def firstDue {α : Type} (xs : List α) (due : α → Bool) (command : α → Instr) : Option Instr := (xs.find? due).map command

/-- The places of a buffer of four. -/
def places : List (Fin 4) := [0, 1, 2, 3]

/-- A strip's timer that has expired. -/
def State.stripDue (s : State) (timer : Strip → Option Time) (command : Strip → Instr) : Option Instr :=
  firstDue allStrips (fun i => expired (timer i) s.siteTime) command

/-- A waiting pulse of a strip at its lone expiry (R63). -/
def State.loneDue (s : State) : Option Instr :=
  allStrips.findSome? fun i =>
    firstDue places (fun k => (s.apu.side[i][k.val]?).any fun w => reached w.expiry s.siteTime) (Instr.loneExpiry i)

/-- An entry of a lane whose upper bound has passed (R73). -/
def State.entryDue (s : State) : Option Instr :=
  allLanes.findSome? fun n =>
    firstDue places (fun k => (s.apu.queue[n][k.val]?).any fun e => e.expiredAt s.siteTime) (Instr.entryExpiry n)

/-- The first event that is due and needs nothing from outside the part: the delivery gate, then the timers and deadlines in
the order of their chapters. A slot boundary, a store and a load need the converter or the memory, and a sample its
decimator; they come as commands. -/
def State.dueEvent (s : State) : Option Instr :=
  (s.apu.transit.head?.map fun r => Instr.pulseArrival r.strip) <|>
  s.stripDue (fun i => s.scu[i].azDue) Instr.autoZeroStep <|>
  s.stripDue (fun i => s.scu[i].pinDue) Instr.pinnedTimerExpiry <|>
  s.stripDue (fun i => s.scu[i].standing.map (·.due)) Instr.standingTimerExpiry <|>
  s.stripDue (fun i => s.scu[i].noiseDue) Instr.noiseWindowEnd <|>
  firstDue allLanes (fun n => expired s.ptu.lane[n].holdDue s.siteTime) Instr.holdTimerExpiry <|>
  s.stripDue (fun i => s.mcs.strip[i].periodicDue) Instr.periodicTimerExpiry <|>
  s.loneDue <|>
  s.entryDue <|>
  firstDue allLanes s.closeDue Instr.closeDeadlineExpiry <|>
  s.stripDue (fun i => s.shu[i].holdoffDue) Instr.holdoffExpiry <|>
  if expired s.cst.calswDue s.siteTime then some Instr.switchPositionTaken else none

/-- A step with no command waiting: the first due event takes the front of the queue; when none is due, site time advances by
1 tu (R210). -/
def State.idle (s : State) : State :=
  match s.dueEvent with
  | some c => { s with pending := [c] }
  | none => { s with siteTime := s.siteTime + 1 }

end Sys2Proof.Machine
end

