-- ==== Sys2Proof/Safety.lean ====
section
/-! DEFINITION. The vocabulary of the statements: what a taken command leaves in the command port, the ranges of the
parameters, and the conditions that every state of the part meets from reset on. -/

namespace Sys2Proof.Machine

/-! ### What a command leaves in the command port -/

/-- The state after an addressed command of a transaction of n bytes, where the command itself leads from s to t: the old
response has been clocked out and the command's own response is pending (R200, R202). -/
def State.answered (s t : State) (n : Nat) (code : Byte) (status : Status) (payload : List Byte) : State :=
  { t with
    cpt := { t.cpt with
      resp := { status := status, echo := code, payload := payload }
      miso := s.cpt.resp.driven n } }

/-- The bytes of a transaction that carries a payload: four of the frame, the payload, the filler (R200). -/
def xferBytes (x : Xfer) (p : List Byte) : Nat := p.length + 4 + x.filler.length

/-- The command codes of R204's table. -/
def knownCodes : List Byte :=
  [0x00, 0x01, 0x02, 0x03, 0x04, 0x05, 0x06, 0x07, 0x10, 0x11, 0x12, 0x13, 0x14, 0x15, 0x16, 0x17, 0x18, 0x19, 0x1A, 0x20,
    0x21, 0x22, 0x23, 0x28, 0x29, 0x2A, 0x2B, 0x2C, 0x30, 0x31, 0x32, 0x33, 0x34, 0x35]

/-- A PARAM_WRITE payload behind its identifier: index and value (R207). -/
def written (k : Nat) (v : BitVec 32) : List Byte := byte k :: bytes4 v.toNat

/-- The response payload of a PARAM_WRITE or PARAM_READ: identifier, index and value (R207, R208). -/
def valueOf (p : Param) (k : Nat) (v : Int) : List Byte := p.id :: byte k :: signed4 v

/-! ### Parameters in their ranges (R207) -/

/-- The range of a parameter by R207's table, with the upper ends that depend on other parameters as they stand (R6). -/
def State.paramRange (s : State) (p : Param) (k : Nat) : Int × Int :=
  let lane := s.par.lane[Fin.ofNat 4 k]
  match p with
  | .tOn => (16, 8191)
  | .tOff => (8, lane.tOn)
  | .nb => (1, lane.tOff)
  | .noiseLim => (1, 8000)
  | .azl => (0, 4095)
  | .azTol => (0, 255)
  | .azStep => (1, 255)
  | .enable | .straddleEn | .probeEn => (0, 1)
  | .wLr => (2, 400)
  | .spdtol => (1, 50)
  | .maxsp => (100, 3000)
  | .maxclose => (8000, 160000)
  | .grp => (50, 500)
  | .rdt => (1, 1000)
  | .probeMap => (0, 3)
  | .tempHold => (0, 3600)
  | .hotTo | .hotTh | .coldTo | .coldTh => (-800, 1600)
  | .hotMode | .coldMode => (0, 2)
  | .slotLen _ => (0, 255)
  | .slotRule _ => (0, 4)
  | .testLimit => (1, 65535)
  | .testPeriod => (0, 1440)
  | .missLim => (1, 15)
  | .holdoff => (1, 255)
  | .attnMask => (0, 63)

/-- Every parameter lies in its range; the pending frame, the frame in force and the slot position keep a slot that is not
removed (R207, R42, R43). -/
def ParametersInRange (s : State) : Prop :=
  (∀ p k, k < (paramScope p).size →
    (s.paramRange p k).1 ≤ s.paramValue p k ∧ s.paramValue p k ≤ (s.paramRange p k).2) ∧
  someLength s.mcs.pendingFrame = true ∧ s.mcs.frame[s.mcs.pos].len ≠ 0

/-! ### Baselines in their windows (R2) -/

/-- A factory zero is a signed 16-bit value. -/
def ZeroInRange (c : CalSet) : Prop := ∀ i : Strip, -32768 ≤ c.strip[i].z ∧ c.strip[i].z ≤ 32767

/-- Every baseline lies in its strip's window, under the working copy's factory zero (R2). -/
def BaselinesInWindow (s : State) : Prop :=
  ZeroInRange s.cst.working ∧ ZeroInRange s.cst.staging ∧
  ∀ i : Strip,
    windowLow s.par.azl s.cst.working.strip[i].z ≤ s.scu[i].base ∧
    s.scu[i].base ≤ windowHigh s.par.azl s.cst.working.strip[i].z

/-! ### The record table and the lane contexts (chapters 6 and 7) -/

/-- The record that a context is linked to. -/
def Context.link : Context → Option Nat
  | .linked number _ => some number
  | _ => none

/-- A live record's figures fit: listed axles are min(axle count, 12) of 1 to 31, with one spacing fewer; the gross weight is
the sum of the listed loads; the overflow mark tells of an axle count above 12; the number is 1 to 65535; a COMPLETE record is
certified exactly when its reason set is empty (R112, R114, R118). -/
def Record.sound (r : Record) : Prop :=
  1 ≤ r.count ∧ r.count ≤ 31 ∧ r.axles.length = min r.count 12 ∧ r.spacings.length = r.axles.length - 1 ∧
  r.gross = (r.axles.map (·.load)).sum ∧ (r.overflow = true ↔ 12 < r.count) ∧ 1 ≤ r.number ∧ r.number ≤ 65535 ∧
  (r.state = .complete → (r.certified = true ↔ r.reasons = 0))

/-- The record table and the contexts fit together: at most 40 live records with numbers of their own, at most 38 held; the
completion-order list holds every COMPLETE record once; a lane's context is linked to the lane's one OPEN record; the last
speed of a context lies within the site-wide limits (R71, R103, R112, R123, R124, R127, R128). -/
def RecordsSound (s : State) : Prop :=
  s.vrt.live.length ≤ 40 ∧ (s.vrt.live.map (·.number)).Nodup ∧ s.vrt.heldCount ≤ 38 ∧
  (∀ r ∈ s.vrt.live, r.sound) ∧
  1 ≤ s.vrt.counter ∧ s.vrt.counter ≤ 65535 ∧
  s.vrt.completed.Nodup ∧
  (∀ r ∈ s.vrt.live, (r.number ∈ s.vrt.completed ↔ r.state = .complete)) ∧
  (∀ k ∈ s.vrt.completed, k ∈ s.vrt.live.map (·.number)) ∧
  (∀ r ∈ s.vrt.live, r.state = .opened → s.vau.lane[r.lane].ctx.link = some r.number) ∧
  (∀ n : Lane, ∀ k ∈ s.vau.lane[n].ctx.link, ∃ r ∈ s.vrt.live, r.number = k ∧ r.lane = n ∧ r.state = .opened) ∧
  (∀ n : Lane, ∀ v ∈ s.vau.lane[n].ctx.vLast?, 556 ≤ v ∧ v ≤ 69444)

/-! ### The test queue and the test in flight (chapter 3) -/

/-- The entries that the MCS keeps: the queue and the test in flight. -/
def Mcs.entries (m : Mcs) : List TestEntry := m.queue ++ (m.flight.map (·.entry)).toList

/-- No strip has two entries, no two entries share a stamp and every stamp lies behind the next one; the queue stands in its
order; a strip is UNDER_TEST exactly while its test is in flight; the converter charges or reads exactly while a test is in
flight; no strip of the lane under test has a pulse in progress; before the load completion no test has started (R16, R47, R53,
R55, R58). -/
def TestsSound (s : State) : Prop :=
  (s.mcs.entries.map (·.strip)).Nodup ∧ (s.mcs.entries.map (·.stamp)).Nodup ∧
  (∀ e ∈ s.mcs.entries, e.stamp < s.mcs.stamps) ∧
  s.mcs.queue.Pairwise (fun a b => a.before b = true) ∧
  (∀ i : Strip, s.scu[i].conn = .underTest ↔ s.mcs.flight.map (·.entry.strip) = some i) ∧
  (s.mcs.flight.isSome = true ↔ s.mcs.work = .charge ∨ s.mcs.work = .read) ∧
  (∀ f ∈ s.mcs.flight, ∀ i : Strip, laneOf i = laneOf f.entry.strip → s.scu[i].pulse = none) ∧
  (s.loaded = false → s.mcs.flight = none ∧ s.mcs.slotDue = none ∧ s.mcs.prev ≠ .charged)

/-! ### Buffers (chapter 4) -/

/-- A side buffer holds at most four pulses, all of its strip; a pairing queue holds at most four upstream row hits of its
lane; a strip that is OUT_OF_SERVICE or DISABLED has no pulse in its buffer or in transit, and none in progress without the
discard mark (R18, R60, R67, R72). -/
def BuffersSound (s : State) : Prop :=
  (∀ i : Strip, s.apu.side[i].length ≤ 4 ∧ ∀ w ∈ s.apu.side[i], w.pulse.strip = i) ∧
  (∀ n : Lane, s.apu.queue[n].length ≤ 4 ∧ ∀ e ∈ s.apu.queue[n], e.hit.lane = n ∧ e.hit.row = .up) ∧
  (∀ i : Strip, s.shu[i].state.delivers = false →
    s.apu.side[i] = [] ∧ (∀ r ∈ s.apu.transit, r.strip ≠ i) ∧ ∀ p ∈ s.scu[i].pulse, p.discard = true)

/-! ### Strip channels and counters (chapters 1 and 9) -/

/-- The counts of a strip channel stay in their ranges, a strip is not at once in a pulse and standing, and a strip that is
not CONNECTED is in neither (R3, R8, R11, R12, R15, R16). -/
def Scu.sound (u : Scu) : Prop :=
  u.idleWait ≤ 1600 ∧ u.idleWin.length ≤ 64 ∧ u.recentWin.length ≤ 64 ∧ u.noiseCount ≤ 8000 ∧
  (∀ p ∈ u.pulse, p.pend.length ≤ 3 ∧ p.total ≤ 3999 ∧ u.standing = none) ∧
  (∀ st ∈ u.standing, st.endRun ≤ 3) ∧
  (∀ k : Nat, u.conn = .settling k → k ≤ 199) ∧
  (u.conn ≠ .connected → u.pulse = none ∧ u.standing = none) ∧
  u.pulses ≤ 65535 ∧ u.clippedPulses ≤ 65535 ∧ u.longPulses ≤ 65535 ∧ u.noises ≤ 65535

/-- The health record of a strip: its counts are bounded, its service state follows its cause set while the strip is judged by
its evidence, a DISABLED strip has no cause, and the holdoff timer runs only in OUT_OF_SERVICE (R163, R172, R176). -/
def Health.sound (h : Health) : Prop :=
  h.missCount ≤ 255 ∧ h.failCount ≤ 1 ∧ h.misses ≤ 65535 ∧
  (h.state = .inService → h.causes.any = false) ∧
  (h.state = .suspect → h.causes.any = true) ∧
  (h.state = .disabled → h.causes.any = false) ∧
  (h.holdoffDue.isSome = true → h.state = .outOfService)

/-- Strips as the SCU, the MCS and the SHU hold them fit together. -/
def StripsSound (s : State) : Prop := TestsSound s ∧ (∀ i : Strip, s.scu[i].sound) ∧ ∀ i : Strip, s.shu[i].sound

/-! ### What the rules say of a frame, a close and a parameter's default -/

/-- What is wrong with the bytes of an addressed transaction and the echo it earns, by R202's table in its order, then by the
identifier of a PARAM_WRITE (R207). -/
def frameFault (bytes : List Byte) (st : Status) (echo : Byte) : Prop :=
  match bytes with
  | [] => False
  | [_] => st = .linkLength ∧ echo = 0
  | [_, code] => st = .linkLength ∧ echo = code
  | addr :: code :: len :: body =>
    echo = code ∧
    if body.length < len.toNat + 1 then st = .linkLength
    else if crc8 (addr :: code :: len :: body.take len.toNat) ≠ body.getD len.toNat 0 then st = .linkCrc
    else if code ∉ knownCodes then st = .unknownCmd
    else code = 0x02 ∧ (body.take len.toNat).head?.bind Param.ofId = none ∧ st = .badValue

/-- The groups of a record (R116). -/
def closedGroups (s : State) (r : Record) : List Group := formGroups s.par.grp (r.axles.map (·.load)) r.spacings

/-- The reason set of a record at its close: the uncertifying flags of its axles and the codes of its marks (R118). -/
def closedReasons (r : Record) : CodeSet :=
  r.axles.foldl (fun acc a => acc ||| (a.flags &&& uncertifying)) 0 |||
    (if r.overflow then codeAxleOverflow else 0) ||| (if r.calChanged then codeCalChanged else 0) |||
    (if r.straddle.isSome then flagStraddle else 0)

/-- A record as its close leaves it (R116 to R118). -/
def closed (s : State) (r : Record) : Record :=
  { r with
    groups := closedGroups s r
    meanSpeed := (r.axles.map (·.speed)).sum / r.axles.length
    classCode := s.cls.classify
      { count := r.count, gross := r.gross, straddle := r.straddle.isSome, spacings := r.spacings
        groups := (closedGroups s r).map (·.count) }
    generation := s.cls.generation
    reasons := closedReasons r
    certified := closedReasons r = 0
    state := .complete
    closeTime := some s.siteTime }

/-- The state after the record of a number has closed in a lane (R118). -/
def afterClose (s : State) (n : Lane) (number : Nat) : State :=
  { s with
    vrt := { s.vrt with
      live := s.vrt.live.map fun r => if r.number = number then closed s r else r
      completed := s.vrt.completed ++ [number] }
    vau := { s.vau with lane := upd s.vau.lane n fun l => { l with ctx := .empty, recorded := min (l.recorded + 1) 65535 } } }

/-- The default of a parameter at an index, by R207's table. -/
def paramDefault (p : Param) (k : Nat) : Int :=
  match p with
  | .tOn => 400
  | .tOff => 200
  | .nb => 60
  | .noiseLim => 400
  | .azl => 1024
  | .azTol => 2
  | .azStep => 10
  | .enable | .straddleEn | .probeEn => 1
  | .wLr => 48
  | .spdtol => 15
  | .maxsp => 1500
  | .maxclose => 64000
  | .grp => 240
  | .rdt => 100
  | .probeMap => k
  | .tempHold => 600
  | .hotTo => 960
  | .hotTh => 880
  | .coldTo => 8
  | .coldTh => 32
  | .hotMode | .coldMode => 1
  | .slotLen n => if n = 1 then 100 else 25
  | .slotRule n => if n = 1 then 1 else if n = 2 then 3 else 0
  | .testLimit => 200
  | .testPeriod => 60
  | .missLim => 4
  | .holdoff => 10
  | .attnMask => 0

/-! ### Samples and timers -/

/-- The newest 64 of a list of samples (R3). -/
def newest64 (w : List Int) : List Int := w.drop (w.length - 64)

/-- A sample that arrives now is processed by the strip's channel (R1). -/
def State.heard (s : State) (i : Strip) : Prop :=
  s.siteTime.toNat % 2 = 0 ∧ s.loaded = true ∧ s.scu[i].conn = .connected ∧ s.shu[i].state ≠ .disabled

/-- The deviation of a sample from the strip's baseline (R1). -/
def State.dev (s : State) (i : Strip) (code : BitVec 16) : Int := code.toInt - s.scu[i].base

/-- A sample at either limit (R1). -/
def atLimit (code : BitVec 16) : Bool := code.toInt = -32768 || code.toInt = 32767

/-- The state after a processed sample: the recent-sample window has taken it, the rest of the channel moves by f (R3). -/
def State.sampled (s : State) (i : Strip) (code : BitVec 16) (f : Scu → Scu) : State :=
  { s with scu := upd s.scu i fun u => f { u with recentWin := newest64 (u.recentWin ++ [code.toInt]) } }

/-- Slot k is the next slot of the frame in force that is not removed (R43). -/
def Mcs.follows (m : Mcs) (k : Fin 4) : Prop :=
  m.pos < k ∧ m.frame[k].len ≠ 0 ∧ ∀ j : Fin 4, m.pos < j → j < k → m.frame[j].len = 0

/-- A timer runs and its moment has come (log 6). -/
def due (timer : Option Time) (now : Time) : Prop := ∃ t, timer = some t ∧ (now - t).toNat < 2147483648

/-! ### Lane temperatures, slots, entries that resolve -/

/-- A lane's temperature after a recomputation over probe units q with mapped probe m: the mapped probe's F, else the floored mean
of the VALID probes' F, else the old value is held or stays as it is (R32, R33). -/
def laneRecomputed (s : State) (q : Vector ProbeUnit 4) (m : Probe) (l : LaneTemp) : LaneTemp :=
  let fs := (q.toList.filter fun u => u.state = .valid).map fun u => u.filt
  if q[m].state = .valid then { tl := q[m].filt, validity := .valid, source := .mapped, holdDue := none }
  else if fs ≠ [] then { tl := fs.sum / fs.length, validity := .valid, source := .mean, holdDue := none }
  else if l.validity ≠ .valid then l
  else if 0 < s.par.tempHold then
    { l with
      source := .none, validity := .held, holdDue := some (s.siteTime + BitVec.ofNat 32 (s.par.tempHold * 16000)) }
  else { l with source := .none, validity := .invalid }

/-- Slot k of a frame begins when the running slot ends: the next slot of the frame in force that is not removed or, at a frame
start, the first such slot of the pending frame, which comes into force (R42, R43). -/
def Mcs.begins (m : Mcs) (frame : Vector Slot 4) (k : Fin 4) : Prop :=
  (m.follows k ∧ frame = m.frame) ∨
  ((∀ j : Fin 4, m.pos < j → m.frame[j].len = 0) ∧ frame = m.pendingFrame ∧ frame[k].len ≠ 0 ∧
    ∀ j : Fin 4, j < k → frame[j].len = 0)

/-- An entry that has left its lane's queue resolves: the downstream row's strips receive misses, the L strip alone for a
straddle; with a vehicle in progress the hit is handed over as an upstream-only axle with the borrowed speed, without one it is
an orphan (R77, R78, R81). -/
def upstreamResolved (s : State) (n : Lane) (e : QueueEntry) : State :=
  let first := s.missReport (stripAt n 2) e.hit.time
  let m := if e.hit.kind = .straddle then first else first.missReport (stripAt n 3) e.hit.time
  match s.vau.lane[n].ctx.vLast? with
  | none => { m with apu := { m.apu with orphans := upd m.apu.orphans n fun c => min (c + 1) 65535 } }
  | some v =>
    m.handOver
      { lane := e.hit.lane, up := some e.hit, down := none, ref := e.hit.time, delta := none, borrowed := some v
        straddle := if e.hit.kind = .straddle then some e.hit.lane.val else none
        flags := e.hit.flags ||| flagBorrowedSpeed ||| flagSingleRow }

/-! ### Records that the host corrects, legal class rules -/

/-- The number j places after a record number, 65535 followed by 1 (R112). -/
def numberAfter (c j : Nat) : Nat := Nat.repeat (fun n => if n < 65535 then n + 1 else 1) j c

/-- The number that the allocation of R112 gives: the first one from the counter on that no live record holds. -/
def allocated (v : Vrt) (number : Nat) : Prop :=
  ∃ j ≤ 40, number = numberAfter v.counter j ∧ number ∉ v.live.map (·.number) ∧
    ∀ i < j, numberAfter v.counter i ∈ v.live.map (·.number)

/-- The figures that a merge or a split recomputes from a record's listed axles and spacings (R141 steps 1 to 7). -/
def refigured (s : State) (r : Record) : Record :=
  { r with
    count := r.axles.length
    groups := closedGroups s r
    gross := (r.axles.map (·.load)).sum
    meanSpeed := (r.axles.map (·.speed)).sum / r.axles.length
    firstTime := (r.axles.map (·.time)).headD 0
    lastTime := (r.axles.map (·.time)).getLastD 0
    straddle := if ∃ a ∈ r.axles, a.flags.getLsbD 16 = true then some r.lane.val else none
    classCode := s.cls.classify
      { count := r.axles.length, gross := (r.axles.map (·.load)).sum
        straddle := r.axles.any fun a => a.flags.getLsbD 16
        spacings := r.spacings, groups := (closedGroups s r).map (·.count) }
    generation := s.cls.generation }

/-- A part of a split record: its axles and spacings, the figures of R141, the reason set of R146. -/
def splitPart (s : State) (r : Record) (axles : List AxleEntry) (spacings : List Nat) : Record :=
  let t := refigured s { r with axles := axles, spacings := spacings, overflow := false, unread := true }
  { t with reasons := closedReasons t ||| codeHostEdited, certified := false }

/-- A rule that CLASS_WRITE can give (R151, R152). -/
def ClassRule.legal (r : ClassRule) : Prop :=
  1 ≤ r.code ∧ r.code ≤ 63 ∧ 1 ≤ r.axMin ∧ r.axMin ≤ r.axMax ∧ r.axMax ≤ 31 ∧
  (∀ g, r.grossMin = some g → g < 4294967296) ∧ (∀ g, r.grossMax = some g → g < 4294967296) ∧
  (∀ a b, r.grossMin = some a → r.grossMax = some b → a ≤ b) ∧
  r.windows.length ≤ 11 ∧ (∀ w ∈ r.windows, w.1 ≤ w.2 ∧ w.2 < 65536) ∧
  ∀ sizes, r.pattern = some sizes → sizes ≠ [] ∧ sizes.sum ≤ 12 ∧ ∀ k ∈ sizes, 1 ≤ k

/-- The shadow bank of the class table replaced (R149). -/
def shadowReplaced (s : State) (b : Vector ClassRule 32) : State :=
  { s with
    cls := { s.cls with
      bank0 := if s.cls.active1 then b else s.cls.bank0
      bank1 := if s.cls.active1 then s.cls.bank1 else b } }

end Sys2Proof.Machine
end

