-- ==== Sys2Proof/WellFormed.lean ====
section
/-! DEFINITION. Well-formed commands: the conditions on operands that the constructors' types do not hold. -/

namespace Sys2Proof

/-- The payload of a host command fits the length byte of its frame (R200). -/
def payloadFits (i : Instr) : Bool :=
  match i.frameParts with
  | some (_, _, payload) => payload.length ≤ 255
  | none => true

/-- A well-formed command:
* a host command's payload holds at most 255 bytes (R200);
* a NOP with the one payload byte 01h is NOP_REPEAT's row (R202);
* UNKNOWN_CMD's bytes do fail a frame check (R202);
* a store reads back the 336 value bytes of an image (R183, R190), and a cut store leaves a whole slot or reads back as
  much (R184). -/
def Instr.wf (i : Instr) : Bool :=
  payloadFits i &&
  match i with
  | .nop _ payload => payload ≠ [0x01]
  | .unknownCmd bytes =>
    match readFrame bytes with
    | .sound _ => false
    | .bad _ _ => true
  | .storeCompletion readBack => readBack.length = Config.imageValues
  | .deviceReset _ (.recordAsItWas spare) => spare.length = Config.imageValues + 2
  | .deviceReset _ (.recordWritten readBack) => readBack.length = Config.imageValues
  | _ => true

end Sys2Proof
end

