-- ==== Sys2Proof/Certificates/Slice0/Obligations.lean ====
section
/-! DEFINITION. The statements for the provers. Each docstring names the rules of spec/ that the statement rests on, or the log
entry where it is the model's own choice. -/

open Sys2Proof Sys2Proof.Machine

/-! ### The whole machine -/

/-- A step runs the command at the front of the queue on the state with the rest of the queue; with no command waiting it puts
the first due event in front, or advances site time by 1 tu. The second half is the model's choice (log 2). -/
def Obligations.StepRunsTheFrontCommand : Prop :=
  (∀ (c : Instr) (rest : List Instr) (s : State), s.pending = c :: rest → step s = exec c { s with pending := rest }) ∧
  (∀ (s : State) (c : Instr), s.pending = [] → s.dueEvent = some c → step s = .next { s with pending := [c] }) ∧
  ∀ s : State, s.pending = [] → s.dueEvent = none → step s = .next { s with siteTime := s.siteTime + 1 }

/-- Every well-formed command has an effect in every state: the part has no fault and refuses nothing but by a status code
(R202 to R204). The one stop is an UNKNOWN_CMD term with the bytes of a sound frame (log 19). -/
def Obligations.EveryCommandAnswersANextState : Prop :=
  (∀ (i : Instr) (s : State), i.wf = true → ∃ t, exec i s = .next t) ∧
  ∀ (bytes : List Byte) (i : Instr) (s : State), readFrame bytes = .sound i →
    exec (.unknownCmd bytes) s = .fault .soundFrame

/-- The bytes of a command's transaction are read back as that command (R200 to R202, R204, R207). -/
def Obligations.TransactionBytesReadBack : Prop :=
  ∀ (i : Instr) (bytes : List Byte), i.wf = true → encodeFrame i = some bytes → decodeFrame bytes = i

/-! ### The command port (chapter 11) -/

/-- An addressed transaction that fails a frame check earns that check's error and changes nothing else (R202, R207). -/
def Obligations.UnsoundFrameEarnsItsError : Prop :=
  ∀ (s : State) (bytes : List Byte) (addr : Byte) (st : Status) (echo : Byte),
    bytes.head? = some addr → s.taker addr = .addressed → frameFault bytes st echo →
    exec (.unknownCmd bytes) s = .next (s.answered s bytes.length echo st [])

/-- A transaction for no node, and a broadcast of anything but TRIM_STEP and SYNC, changes nothing; MISO is not driven (R199,
R203). -/
def Obligations.UntakenTransactionsChangeNothing : Prop :=
  (∀ (i : Instr) (x : Xfer) (code : Byte) (p : List Byte) (s : State), i.frameParts = some (x, code, p) →
    (s.taker x.addr = .nobody ∨ (s.taker x.addr = .broadcast ∧ code ≠ 0x35 ∧ code ≠ 0x05)) →
    exec i s = .next { s with cpt := { s.cpt with miso := [] } }) ∧
  ∀ (bytes : List Byte) (addr : Byte) (e : FrameError) (echo : Byte) (s : State), bytes.head? = some addr →
    readFrame bytes = .bad e echo → s.taker addr ≠ .addressed →
    exec (.unknownCmd bytes) s = .next { s with cpt := { s.cpt with miso := [] } }

/-- The address byte alone decides who takes a transaction (R199); until the load completion nobody does (R203). The response
frame runs from the status code to its CRC-8 one byte late, FFh follows it, and a shorter transaction cuts it (R200). The CRC-8
starts at FFh and takes a byte by exclusive-or and eight shifts with generator 07h (R201). A transaction under way at the load
completion is judged at its end (log 32). -/
def Obligations.AddressByteAndResponseBytes : Prop :=
  (∀ (s : State) (addr : Byte), s.loaded = true →
    (s.taker addr = .addressed ↔ addr.toNat < 4 ∧ addr.toNat = s.cpt.node.toNat) ∧
    (s.taker addr = .broadcast ↔ 128 ≤ addr.toNat ∧ addr.toNat < 132)) ∧
  (∀ (s : State) (addr : Byte), s.loaded = false → s.taker addr = .nobody) ∧
  (crc8 [] = 0xFF ∧ ∀ (bytes : List Byte) (b : Byte),
    let shift (c : Byte) : Byte := if c.getLsbD 7 then (c <<< 1) ^^^ 0x07 else c <<< 1
    crc8 (bytes ++ [b]) = shift (shift (shift (shift (shift (shift (shift (shift (crc8 bytes ^^^ b))))))))) ∧
  ∀ (r : Response) (n : Nat), r.payload.length ≤ 255 →
    let frame := r.status.code :: r.echo :: byte r.payload.length :: r.payload ++
      [crc8 (r.status.code :: r.echo :: byte r.payload.length :: r.payload)]
    (n ≤ frame.length → r.driven (n + 1) = frame.take n) ∧
    (frame.length ≤ n → r.driven (n + 1) = frame ++ List.replicate (n - frame.length) 0xFF)

/-- NOP answers OK with an empty payload, keeps the response it clocks out with the byte 01h, and refuses any other payload
(R202). -/
def Obligations.NopAnswersOrRepeats : Prop :=
  ∀ (s : State) (x : Xfer), s.taker x.addr = .addressed →
    exec (.nop x []) s = .next (s.answered s (xferBytes x []) 0x00 .ok []) ∧
    exec (.nopRepeat x) s = .next { s with cpt := { s.cpt with miso := s.cpt.resp.driven (xferBytes x [0x01]) } } ∧
    ∀ p : List Byte, p ≠ [] → p ≠ [0x01] →
      exec (.nop x p) s = .next (s.answered s (xferBytes x p) 0x00 .badValue [])

/-- The causes stand as the table of R205 says, and the line is pulled low exactly while an unmasked one stands. -/
def Obligations.AttentionFollowsUnmaskedCauses : Prop :=
  ∀ s : State,
    (s.causes.getLsbD 0 = true ↔ ∃ r ∈ s.vrt.live, r.state = .complete ∧ r.unread = true) ∧
    (s.causes.getLsbD 1 = true ↔
      ∃ p : Probe, s.ptu.probe[p].hot.event = true ∨ s.ptu.probe[p].cold.event = true ∨
        s.ptu.probe[p].faultEvent = true) ∧
    (s.causes.getLsbD 2 = true ↔ ∃ i : Strip, s.shu[i].leftService = true ∨ s.shu[i].changed = true) ∧
    (s.causes.getLsbD 3 = s.cpt.calEvent) ∧ (s.causes.getLsbD 4 = s.cpt.unrecordedLatch) ∧
    (s.causes.getLsbD 5 = s.cpt.scheduleShort) ∧
    (s.attn = true ↔ ∃ k < 6, s.causes.getLsbD k = true ∧ s.par.attnMask.getLsbD k = false)

/-- STATUS reports its 17 bytes and then clears the three latches of the CPT, nothing else (R206). SYNC, addressed or broadcast,
latches the site time; SYNC_READ returns the latch and changes nothing (R203, R210). -/
def Obligations.StatusAndSyncAnswer : Prop :=
  (∀ (s : State) (x : Xfer), s.taker x.addr = .addressed →
    exec (.status x []) s = .next (s.answered
      { s with cpt := { s.cpt with calEvent := false, unrecordedLatch := false, scheduleShort := false } }
      (xferBytes x []) 0x01 .ok
      ([s.causes, s.par.attnMask,
        byte ((if s.cst.invalid then 1 else 0) + (if s.cst.store.isSome then 2 else 0) + (if s.cst.unstored then 4 else 0) +
          (if s.cst.closed then 8 else 0)),
        byte (40 - s.vrt.live.length), byte (s.vrt.live.countP fun r => r.state = .opened),
        byte (s.vrt.live.countP fun r => r.state = .complete), byte (s.vrt.live.countP fun r => r.held)] ++
        bytes2 s.vrt.counter ++ bytes4 s.cst.counter ++ bytes4 s.siteTime.toNat)) ∧
    ∀ p : List Byte, p ≠ [] → exec (.status x p) s = .next (s.answered s (xferBytes x p) 0x01 .badValue [])) ∧
  ∀ (s : State) (x : Xfer),
    (s.taker x.addr = .addressed →
      exec (.sync x []) s = .next (s.answered { s with cpt := { s.cpt with syncLatch := some s.siteTime } }
        (xferBytes x []) 0x05 .ok (bytes4 s.siteTime.toNat)) ∧
      exec (.syncRead x []) s = .next (s.answered s (xferBytes x []) 0x06 .ok
        (match s.cpt.syncLatch with
        | some t => 1 :: bytes4 t.toNat
        | none => [0, 0, 0, 0, 0]))) ∧
    (s.taker x.addr = .broadcast →
      exec (.sync x []) s = .next { s with cpt := { s.cpt with syncLatch := some s.siteTime, miso := [] } })

/-- PARAM_READ returns identifier, index and value as it stands and changes nothing; an unknown identifier, an index outside
the scope and another length are refused (R208). COUNTER_READ returns the counters of a strip or a lane in R209's order and
clears every counter it returned. -/
def Obligations.ParamAndCounterReadsAnswer : Prop :=
  (∀ (s : State) (x : Xfer) (p : Param) (k : Nat), s.taker x.addr = .addressed → k < (paramScope p).size →
    exec (.paramRead x [p.id, byte k]) s =
      .next (s.answered s (xferBytes x [p.id, byte k]) 0x03 .ok (valueOf p k (s.paramValue p k)))) ∧
  (∀ (s : State) (x : Xfer) (q : List Byte), s.taker x.addr = .addressed →
    (q.length ≠ 2 ∨ ∀ p, Param.ofId (q.getD 0 0) = some p → (paramScope p).size ≤ (q.getD 1 0).toNat) →
    exec (.paramRead x q) s = .next (s.answered s (xferBytes x q) 0x03 .badValue [])) ∧
  ∀ (s : State) (x : Xfer), s.taker x.addr = .addressed →
    (∀ i : Strip, exec (.counterRead x [0, byte i.val]) s = .next (s.answered
      { s with
        scu := upd s.scu i fun u => { u with pulses := 0, clippedPulses := 0, longPulses := 0, noises := 0 }
        mcs := { s.mcs with strip := upd s.mcs.strip i fun t => { t with passed := 0, failed := 0, aborted := 0 } }
        shu := upd s.shu i fun h => { h with misses := 0 } }
      (xferBytes x [0, byte i.val]) 0x04 .ok
      ([0, byte i.val] ++ bytes2 s.scu[i].pulses ++ bytes2 s.scu[i].clippedPulses ++ bytes2 s.scu[i].longPulses ++
        bytes2 s.scu[i].noises ++ bytes2 s.mcs.strip[i].passed ++ bytes2 s.mcs.strip[i].failed ++
        bytes2 s.mcs.strip[i].aborted ++ bytes2 s.shu[i].misses))) ∧
    ∀ n : Lane, exec (.counterRead x [1, byte n.val]) s = .next (s.answered
      { s with
        vau := { s.vau with lane := upd s.vau.lane n fun l => { l with recorded := 0, unrecorded := 0, evicted := 0 } }
        apu := { s.apu with orphans := upd s.apu.orphans n fun _ => 0 } }
      (xferBytes x [1, byte n.val]) 0x04 .ok
      ([1, byte n.val] ++ bytes2 s.vau.lane[n].recorded ++ bytes2 s.vau.lane[n].unrecorded ++
        bytes2 s.vau.lane[n].evicted ++ bytes2 s.apu.orphans[n]))

/-- TEMP_STATUS returns four probe blocks and four lane blocks, 56 bytes, and then sets every probe's minimum and maximum to F
and clears its event bits; the modes that it reports are the effective ones (R31, R36, R209). -/
def Obligations.TempStatusReportsAndClears : Prop :=
  (∀ (s : State) (x : Xfer), s.taker x.addr = .addressed →
    exec (.tempStatus x []) s = .next (s.answered
      { s with
        ptu := { s.ptu with
          probe := mapAll s.ptu.probe fun u =>
            { u with
              fMin := u.filt
              fMax := u.filt
              hot := { u.hot with event := false }
              cold := { u.cold with event := false }
              faultEvent := false } } }
      (xferBytes x []) 0x2C .ok (tempStatusBytes s.ptu))) ∧
  (∀ q : Ptu, (tempStatusBytes q).length = 56) ∧
  (∀ (q : Ptu) (p : Probe),
    let hot := q.probe[p].hot
    let cold := q.probe[p].cold
    let effective (degenerate : Bool) (m : AlarmMode) : Nat :=
      if degenerate then 0 else match m with | .comparator => 0 | .twoEvent => 1 | .oneEvent => 2
    ((tempStatusBytes q).drop (11 * p.val)).take 11 =
    byte (match q.probe[p].state with | .unknown => 0 | .valid => 1 | .fault => 2 | .disabled => 3) ::
      (signed2 q.probe[p].last ++ signed2 q.probe[p].filt ++ signed2 q.probe[p].fMin ++ signed2 q.probe[p].fMax ++
        [byte ((if hot.tripped then 1 else 0) + (if cold.tripped then 2 else 0) +
            (if hot.event then 4 else 0) + (if cold.event then 8 else 0) +
            (if q.probe[p].faultEvent then 16 else 0)),
          byte (effective (hot.trip ≤ hot.hyst) hot.mode + 4 * effective (cold.hyst ≤ cold.trip) cold.mode)])) ∧
  ∀ (q : Ptu) (n : Lane), ((tempStatusBytes q).drop (44 + 3 * n.val)).take 3 =
    signed2 q.lane[n].tl ++
      [byte ((match q.lane[n].validity with | .valid => 0 | .held => 1 | .invalid => 2) +
        (match q.lane[n].source with | .mapped => 0 | .mean => 4 | .none => 8))]

/-- TRAFFIC_RESET is one event: the SCUs drop pulses and standing (R22), the MCS empties its queue and aborts the test in flight
(R56, R59), the APU, the contexts and the record table are emptied (R82, R122, R148), miss counts fall to 0 (R181); everything
else is kept, and the response is the record number counter (R211). -/
def Obligations.TrafficResetClearsTraffic : Prop :=
  ∀ (s : State) (x : Xfer), s.taker x.addr = .addressed →
    let cleared (t : State) : State :=
      { t with
        scu := mapAll t.scu fun u =>
          { u with
            pulse := none
            standing := none
            idleWait := if u.pulse = none ∧ u.standing = none then u.idleWait else 0 }
        mcs := { t.mcs with queue := [] }
        apu := { side := Vector.replicate 16 [], queue := Vector.replicate 4 [], orphans := t.apu.orphans, transit := [] }
        vau := { t.vau with lane := mapAll t.vau.lane fun l => { l with ctx := .empty } }
        vrt := { live := [], completed := [], counter := t.vrt.counter }
        shu := mapAll t.shu fun h => { h with missCount := 0 } }
    (s.mcs.flight = none →
      exec (.trafficReset x []) s =
        .next (s.answered (cleared s) (xferBytes x []) 0x07 .ok (bytes2 s.vrt.counter))) ∧
    (∀ f : Flight, s.mcs.flight = some f →
      exec (.trafficReset x []) s =
        .next (s.answered
          (cleared { s with
            scu := upd s.scu f.entry.strip fun u => { u with conn := .settling 0 }
            mcs := { s.mcs with
              flight := none
              work := .stopped
              strip := upd s.mcs.strip f.entry.strip fun t => { t with aborted := min (t.aborted + 1) 65535 } } })
          (xferBytes x []) 0x07 .ok (bytes2 s.vrt.counter))) ∧
    ∀ p : List Byte, p ≠ [] → exec (.trafficReset x p) s = .next (s.answered s (xferBytes x p) 0x07 .badValue [])

/-- DEVICE_RESET takes every block to its reset values, the parameters to R207's defaults, whatever the state, and reads the
straps; the nonvolatile memory keeps the last completed record write, a store cut before its record write leaves the record as it
was, one cut after it leaves the record as it was written, and the record write falls in the store's completion, 480 to 1,440 tu
after the acceptance (R184, R190, R192, R193, R197, R207, R212). The queue stays and the cut store is an operand (log 8, log 26);
the bytes that a cut store's slot holds behind its read-back, the staging CRC, are log 7's. The model's choices: the calibration
values before the load (log 10), the switch, whose input level is kept and whose position is open with no wait until the load
takes the input (log 11), and the class table's active-bank marker at bank 0 (log 17). -/
def Obligations.DeviceResetRestoresResetValues : Prop :=
  (∀ (s : State) (straps : BitVec 2) (cut : StoreCut), ∃ nv : Nonvolatile,
    exec (.deviceReset straps cut) s =
      .next { State.reset with
        pending := s.pending
        cpt := { State.reset.cpt with node := straps }
        cst := { State.reset.cst with nv := nv, calsw := s.cst.calsw } } ∧
    (s.cst.store = none → nv = s.cst.nv) ∧
    let old := s.cst.nv
    let asItWas : Prop := nv.current1 = old.current1 ∧ nv.counter = old.counter ∧ nv.failMark = old.failMark ∧
      nv.current = old.current
    let spare (bytes : List Byte) : Nonvolatile :=
      { old with
        slot0 := if old.current1 then bytes else old.slot0
        slot1 := if old.current1 then old.slot1 else bytes }
    (∀ bytes, s.cst.store.isSome = true → cut = .recordAsItWas bytes → nv = spare bytes ∧ asItWas) ∧
    ∀ start readBack, s.cst.store = some start → cut = .recordWritten readBack →
      let ran := (s.siteTime - start).toNat
      let image := readBack ++ bytes2 s.cst.staging.crc.toNat
      (ran < 480 ∨ 1440 < ran → asItWas) ∧
      (480 ≤ ran → ran ≤ 1440 → crc16 readBack = s.cst.staging.crc →
        nv = { spare image with current1 := !old.current1, counter := old.counter + 1, failMark := false }) ∧
      (480 ≤ ran → ran ≤ 1440 → crc16 readBack ≠ s.cst.staging.crc → nv = { spare image with failMark := true })) ∧
  ∀ (p : Param) (k : Nat), k < (paramScope p).size → State.reset.paramValue p k = paramDefault p k

/-! ### Parameters (section 11.4) -/

/-- T_ON, T_OFF and NB are clamped into their ranges and keep NB ≤ T_OFF ≤ T_ON: a lowered T_ON lowers T_OFF and NB, a lowered
T_OFF lowers NB (R6, R207). -/
def Obligations.ThresholdWritesKeepTheirOrder : Prop :=
  ∀ (s : State) (x : Xfer) (n : Lane) (v : BitVec 32), s.taker x.addr = .addressed → s.quiet n = true →
    let lane := s.par.lane[n]
    let on : Nat := (max 16 (min v.toInt 8191)).toNat
    let off : Nat := (max 8 (min v.toInt lane.tOn)).toNat
    let nb : Nat := (max 1 (min v.toInt lane.tOff)).toNat
    exec (.tOn x (written n.val v)) s = .next (s.answered
      { s with
        par := { s.par with
          lane := upd s.par.lane n fun p =>
            { p with tOn := on, tOff := min p.tOff on, nb := min p.nb (min p.tOff on) } } }
      (xferBytes x (Param.id .tOn :: written n.val v)) 0x02 .ok (valueOf .tOn n.val on)) ∧
    exec (.tOff x (written n.val v)) s = .next (s.answered
      { s with par := { s.par with lane := upd s.par.lane n fun p => { p with tOff := off, nb := min p.nb off } } }
      (xferBytes x (Param.id .tOff :: written n.val v)) 0x02 .ok (valueOf .tOff n.val off)) ∧
    exec (.nb x (written n.val v)) s = .next (s.answered
      { s with par := { s.par with lane := upd s.par.lane n fun p => { p with nb := nb } } }
      (xferBytes x (Param.id .nb :: written n.val v)) 0x02 .ok (valueOf .nb n.val nb))

/-- NOISE_LIM, W_LR, SPDTOL, MAXSP, MAXCLOSE and RDT on a quiet lane are clamped and stored, and nothing else moves (R6, R80,
R94, R120, R207). -/
def Obligations.LaneParameterWritesClamp : Prop :=
  ∀ (s : State) (x : Xfer) (n : Lane) (v : BitVec 32), s.taker x.addr = .addressed → s.quiet n = true →
    let held (lo hi : Int) : Nat := (max lo (min v.toInt hi)).toNat
    let result (p : Param) (w : Nat) (f : LanePar → LanePar) : Host.Outcome State Fault Refusal :=
      .next (s.answered { s with par := { s.par with lane := upd s.par.lane n f } }
        (xferBytes x (p.id :: written n.val v)) 0x02 .ok (valueOf p n.val w))
    exec (.noiseLim x (written n.val v)) s =
      result .noiseLim (held 1 8000) (fun p => { p with noiseLim := held 1 8000 }) ∧
    exec (.wLr x (written n.val v)) s = result .wLr (held 2 400) (fun p => { p with wLr := held 2 400 }) ∧
    exec (.spdtol x (written n.val v)) s = result .spdtol (held 1 50) (fun p => { p with spdTol := held 1 50 }) ∧
    exec (.maxsp x (written n.val v)) s = result .maxsp (held 100 3000) (fun p => { p with maxSp := held 100 3000 }) ∧
    exec (.maxclose x (written n.val v)) s =
      result .maxclose (held 8000 160000) (fun p => { p with maxClose := held 8000 160000 }) ∧
    exec (.rdt x (written n.val v)) s = result .rdt (held 1 1000) (fun p => { p with rdt := held 1 1000 })

/-- AZ_TOL, AZ_STEP, GRP, TEMP_HOLD, TEST_LIMIT, MISS_LIM and HOLDOFF are clamped and stored at any time, and nothing else moves
(R4, R34, R54, R120, R165, R172, R207). -/
def Obligations.SiteParameterWritesClamp : Prop :=
  ∀ (s : State) (x : Xfer) (v : BitVec 32), s.taker x.addr = .addressed →
    let held (lo hi : Int) : Nat := (max lo (min v.toInt hi)).toNat
    let result (p : Param) (w : Nat) (q : Par) : Host.Outcome State Fault Refusal :=
      .next (s.answered { s with par := q } (xferBytes x (p.id :: written 0 v)) 0x02 .ok (valueOf p 0 w))
    exec (.azTol x (written 0 v)) s = result .azTol (held 0 255) { s.par with azTol := held 0 255 } ∧
    exec (.azStep x (written 0 v)) s = result .azStep (held 1 255) { s.par with azStep := held 1 255 } ∧
    exec (.grp x (written 0 v)) s = result .grp (held 50 500) { s.par with grp := held 50 500 } ∧
    exec (.tempHold x (written 0 v)) s = result .tempHold (held 0 3600) { s.par with tempHold := held 0 3600 } ∧
    exec (.testLimit x (written 0 v)) s = result .testLimit (held 1 65535) { s.par with testLimit := held 1 65535 } ∧
    exec (.missLim x (written 0 v)) s = result .missLim (held 1 15) { s.par with missLim := held 1 15 } ∧
    exec (.holdoff x (written 0 v)) s = result .holdoff (held 1 255) { s.par with holdoff := held 1 255 }

/-- A PARAM_WRITE of AZL that changes its value clamps every strip's baseline into its new window and clears the pinned state
with its timer, and the SHU withdraws DRIFT, by which alone service states and test requests may follow (R2, R5, R164, R168); the
samples, the pulses and every other block stay; one that leaves the value changes nothing (R207). -/
def Obligations.AzlWriteMovesTheWindows : Prop :=
  ∀ (s : State) (x : Xfer) (v : BitVec 32), s.taker x.addr = .addressed →
    let a : Nat := (max 0 (min v.toInt 4095)).toNat
    let answer (t : State) : Host.Outcome State Fault Refusal :=
      .next (s.answered t (xferBytes x (Param.id .azl :: written 0 v)) 0x02 .ok (valueOf .azl 0 a))
    let moved : State :=
      { s with
        par := { s.par with azl := a }
        scu := Vector.ofFn fun i : Strip =>
          { s.scu[i] with
            base := max (max (s.cst.working.strip[i].z - a) (-32768))
              (min s.scu[i].base (min (s.cst.working.strip[i].z + a) 32767))
            pinned := false
            pinDue := none } }
    (a = s.par.azl → exec (.azl x (written 0 v)) s = answer s) ∧
    (a ≠ s.par.azl → exec (.azl x (written 0 v)) s =
      answer (allStrips.foldl (fun t i => t.evidence i fun c => { c with drift := false }) moved)) ∧
    ∀ i : Strip, a ≠ s.par.azl → s.shu[i].state ≠ .disabled → ∃ t : State, exec (.azl x (written 0 v)) s = .next t ∧
      t.shu[i].causes = { s.shu[i].causes with drift := false } ∧ (s.shu[i].causes.drift = false → t.shu[i] = s.shu[i])

/-- ENABLE 0 takes the strip to DISABLED: its health record is emptied, its channel drops what it holds and its buffer is purged;
ENABLE 1 takes it from DISABLED to IN_SERVICE afresh; a write that leaves the value changes nothing (R19, R67, R176). A record
of the strip in transit goes with the purge (log 5). -/
def Obligations.EnableWriteMovesTheStrip : Prop :=
  ∀ (s : State) (x : Xfer) (i : Strip) (v : BitVec 32), s.taker x.addr = .addressed → s.quiet (laneOf i) = true →
    let answer (t : State) (w : Int) : Host.Outcome State Fault Refusal :=
      .next (s.answered t (xferBytes x (Param.id .enable :: written i.val v)) 0x02 .ok (valueOf .enable i.val w))
    (v.toInt ≤ 0 → s.shu[i].state ≠ .disabled → exec (.enable x (written i.val v)) s = answer
      { s with
        shu := upd s.shu i fun h =>
          { h with
            state := .disabled
            causes := Causes.none
            missCount := 0
            failCount := 0
            holdoffDue := none
            changed := true
            leftService := h.leftService || h.state = .inService }
        scu := upd s.scu i fun u =>
          { u with
            pulse := none
            standing := none
            pinned := false
            pinDue := none
            noisyLive := false
            noisyLatched := false
            noiseCount := 0
            idleWin := []
            recentWin := [] }
        apu := { s.apu with
          side := upd s.apu.side i fun _ => []
          transit := s.apu.transit.filter fun r => r.strip ≠ i } } 0) ∧
    (0 < v.toInt → s.shu[i].state = .disabled → exec (.enable x (written i.val v)) s = answer
      { s with
        shu := upd s.shu i fun h =>
          { h with state := .inService, causes := Causes.none, missCount := 0, changed := true }
        scu := upd s.scu i fun u => { u with idleWait := 0 } } 1) ∧
    (v.toInt ≤ 0 → s.shu[i].state = .disabled → exec (.enable x (written i.val v)) s = answer s 0) ∧
    (0 < v.toInt → s.shu[i].state ≠ .disabled → exec (.enable x (written i.val v)) s = answer s 1)

/-- STRADDLE_EN is stored (R80, R207); a changed PROBE_MAP makes its lane recompute at once, be the newly mapped probe VALID or
not (R32 to R34); PROBE_EN 0 disables the probe, and every lane recomputes when it was VALID; PROBE_EN 1 makes a DISABLED probe
UNKNOWN (R27). A write of the value in force changes nothing (R27, R34, R207). -/
def Obligations.StraddleAndProbeWrites : Prop :=
  ∀ (s : State) (x : Xfer) (v : BitVec 32), s.taker x.addr = .addressed →
    let answer (p : Param) (k : Nat) (t : State) (w : Int) : Host.Outcome State Fault Refusal :=
      .next (s.answered t (xferBytes x (p.id :: written k v)) 0x02 .ok (valueOf p k w))
    let stopped (p : Probe) : Vector ProbeUnit 4 :=
      upd s.ptu.probe p fun u => { u with state := .disabled, outRun := 0, inRun := 0, spikeRun := 0 }
    (∀ b : Boundary, s.quiet b.castSucc = true → s.quiet b.succ = true →
      (s.par.straddleEn[b] ≠ decide (0 < v.toInt) → exec (.straddleEn x (written b.val v)) s = answer .straddleEn b.val
        { s with par := { s.par with straddleEn := upd s.par.straddleEn b fun e => !e } } (if 0 < v.toInt then 1 else 0)) ∧
      (s.par.straddleEn[b] = decide (0 < v.toInt) → exec (.straddleEn x (written b.val v)) s =
        answer .straddleEn b.val s (if 0 < v.toInt then 1 else 0))) ∧
    (∀ (n : Lane) (p : Probe), s.quiet n = true → (max 0 (min v.toInt 3)).toNat = p.val →
      (p ≠ s.par.lane[n].probeMap → exec (.probeMap x (written n.val v)) s = answer .probeMap n.val
        { s with
          par := { s.par with lane := upd s.par.lane n fun l => { l with probeMap := p } }
          ptu := { s.ptu with lane := upd s.ptu.lane n fun l => laneRecomputed s s.ptu.probe p l } } p.val) ∧
      (p = s.par.lane[n].probeMap → exec (.probeMap x (written n.val v)) s = answer .probeMap n.val s p.val)) ∧
    ∀ p : Probe,
      (v.toInt ≤ 0 → s.ptu.probe[p].state = .valid → exec (.probeEn x (written p.val v)) s = answer .probeEn p.val
        { s with
          ptu := { s.ptu with
            probe := stopped p
            lane := Vector.ofFn fun n : Lane =>
              laneRecomputed s (stopped p) s.par.lane[n].probeMap s.ptu.lane[n] } } 0) ∧
      (v.toInt ≤ 0 → s.ptu.probe[p].state = .unknown ∨ s.ptu.probe[p].state = .fault →
        exec (.probeEn x (written p.val v)) s =
          answer .probeEn p.val { s with ptu := { s.ptu with probe := stopped p } } 0) ∧
      (v.toInt ≤ 0 → s.ptu.probe[p].state = .disabled → exec (.probeEn x (written p.val v)) s = answer .probeEn p.val s 0) ∧
      (0 < v.toInt → s.ptu.probe[p].state = .disabled → exec (.probeEn x (written p.val v)) s = answer .probeEn p.val
        { s with ptu := { s.ptu with probe := upd s.ptu.probe p fun u => { u with state := .unknown } } } 1) ∧
      (0 < v.toInt → s.ptu.probe[p].state ≠ .disabled → exec (.probeEn x (written p.val v)) s = answer .probeEn p.val s 1)

/-- A write of one of an alarm unit's three parameters stores it, limits clamped into −800 to 1600, and returns that unit to
ARMED with its event bit as it is; a mode that names none of the three is refused (R36, R207). -/
def Obligations.AlarmWritesArmTheUnit : Prop :=
  ∀ (s : State) (x : Xfer) (p : Probe) (v : BitVec 32), s.taker x.addr = .addressed →
    let w : Int := max (-800) (min v.toInt 1600)
    let result (q : Param) (r : Int) (f : ProbeUnit → ProbeUnit) : Host.Outcome State Fault Refusal :=
      .next (s.answered { s with ptu := { s.ptu with probe := upd s.ptu.probe p f } }
        (xferBytes x (q.id :: written p.val v)) 0x02 .ok (valueOf q p.val r))
    let refused (q : Param) : Host.Outcome State Fault Refusal :=
      .next (s.answered s (xferBytes x (q.id :: written p.val v)) 0x02 .badValue [])
    exec (.hotTo x (written p.val v)) s =
      result .hotTo w (fun u => { u with hot := { u.hot with trip := w, tripped := false } }) ∧
    exec (.hotTh x (written p.val v)) s =
      result .hotTh w (fun u => { u with hot := { u.hot with hyst := w, tripped := false } }) ∧
    exec (.coldTo x (written p.val v)) s =
      result .coldTo w (fun u => { u with cold := { u.cold with trip := w, tripped := false } }) ∧
    exec (.coldTh x (written p.val v)) s =
      result .coldTh w (fun u => { u with cold := { u.cold with hyst := w, tripped := false } }) ∧
    (∀ m : AlarmMode, v.toInt = m.code →
      exec (.hotMode x (written p.val v)) s =
        result .hotMode m.code (fun u => { u with hot := { u.hot with mode := m, tripped := false } }) ∧
      exec (.coldMode x (written p.val v)) s =
        result .coldMode m.code (fun u => { u with cold := { u.cold with mode := m, tripped := false } })) ∧
    (v.toInt < 0 ∨ 2 < v.toInt →
      exec (.hotMode x (written p.val v)) s = refused .hotMode ∧
      exec (.coldMode x (written p.val v)) s = refused .coldMode)

/-- SLOTn_LEN and SLOTn_RULE change the pending frame only; a length that would leave all four pending lengths at 0 and a value
that names no rule are refused (R42, R207). -/
def Obligations.SlotWritesChangeThePendingFrame : Prop :=
  ∀ (s : State) (x : Xfer) (n : Fin 4) (v : BitVec 32), s.taker x.addr = .addressed →
    let len : Nat := (max 0 (min v.toInt 255)).toNat
    let pending (f : Vector Slot 4) : State := { s with mcs := { s.mcs with pendingFrame := f } }
    let bytes (p : Param) : Nat := xferBytes x (p.id :: written 0 v)
    ((len ≠ 0 ∨ ∃ k : Fin 4, k ≠ n ∧ s.mcs.pendingFrame[k].len ≠ 0) →
      exec (.slotLen n x (written 0 v)) s = .next (s.answered
        (pending (upd s.mcs.pendingFrame n fun k => { k with len := len })) (bytes (.slotLen n)) 0x02 .ok
        (valueOf (.slotLen n) 0 len))) ∧
    ((len = 0 ∧ ∀ k : Fin 4, k ≠ n → s.mcs.pendingFrame[k].len = 0) →
      exec (.slotLen n x (written 0 v)) s = .next (s.answered s (bytes (.slotLen n)) 0x02 .badValue [])) ∧
    (∀ r : SlotRule, v.toInt = r.code →
      exec (.slotRule n x (written 0 v)) s = .next (s.answered
        (pending (upd s.mcs.pendingFrame n fun k => { k with rule := r })) (bytes (.slotRule n)) 0x02 .ok
        (valueOf (.slotRule n) 0 r.code))) ∧
    ((v.toInt < 0 ∨ 4 < v.toInt) →
      exec (.slotRule n x (written 0 v)) s = .next (s.answered s (bytes (.slotRule n)) 0x02 .badValue []))

/-- TEST_PERIOD 0 stops all sixteen timers, a value above 0 starts them when they were stopped and leaves running ones (R50);
ATTN_MASK takes bits 0 to 5 and refuses the others (R205, R207). -/
def Obligations.PeriodAndMaskWrites : Prop :=
  ∀ (s : State) (x : Xfer) (v : BitVec 32), s.taker x.addr = .addressed →
    let m : Nat := (max 0 (min v.toInt 1440)).toNat
    let timers (due : Option Time) : State :=
      { s with
        par := { s.par with testPeriod := m }
        mcs := { s.mcs with strip := mapAll s.mcs.strip fun t => { t with periodicDue := due } } }
    let answer (t : State) : Host.Outcome State Fault Refusal :=
      .next (s.answered t (xferBytes x (Param.id .testPeriod :: written 0 v)) 0x02 .ok (valueOf .testPeriod 0 m))
    (m = 0 → exec (.testPeriod x (written 0 v)) s = answer (timers none)) ∧
    (m ≠ 0 → s.par.testPeriod = 0 →
      exec (.testPeriod x (written 0 v)) s = answer (timers (some (s.siteTime + BitVec.ofNat 32 (m * 960000))))) ∧
    (m ≠ 0 → s.par.testPeriod ≠ 0 →
      exec (.testPeriod x (written 0 v)) s = answer { s with par := { s.par with testPeriod := m } }) ∧
    (0 ≤ v.toInt → v.toInt < 64 → exec (.attnMask x (written 0 v)) s = .next (s.answered
      { s with par := { s.par with attnMask := BitVec.ofInt 8 v.toInt } }
      (xferBytes x (Param.id .attnMask :: written 0 v)) 0x02 .ok (valueOf .attnMask 0 v.toInt))) ∧
    (v.toInt < 0 ∨ 64 ≤ v.toInt → exec (.attnMask x (written 0 v)) s =
      .next (s.answered s (xferBytes x (Param.id .attnMask :: written 0 v)) 0x02 .badValue []))

/-- A lane is quiet exactly while none of its strips has a pulse in progress, stands or has a pulse waiting in its side buffer,
its pairing queue and its context are empty, and each strip's last pulse end, if it has one, is 3,200 tu back or out of reach
(R51). The order of R207's first two checks: a payload of another length or with an index outside the scope is refused BAD_VALUE;
then a lane, strip or boundary parameter whose lane is not quiet is refused LANE_BUSY. Nothing changes. -/
def Obligations.ParameterChecksComeInOrder : Prop :=
  (∀ (s : State) (n : Lane), s.quiet n = true ↔
    (∀ i : Strip, laneOf i = n →
      s.scu[i].pulse = none ∧ s.scu[i].standing = none ∧ s.apu.side[i] = [] ∧
      ∀ t, s.scu[i].lastEnd = some t → 3200 ≤ (s.siteTime - t).toNat ∨ 2147483648 ≤ (s.siteTime - t).toNat) ∧
    s.apu.queue[n] = [] ∧ s.vau.lane[n].ctx = .empty) ∧
  ∀ (s : State) (x : Xfer) (p : Param) (rest : List Byte), s.taker x.addr = .addressed →
    let bytes := xferBytes x (p.id :: rest)
    (rest.length ≠ 5 ∨ (paramScope p).size ≤ (rest.getD 0 0).toNat →
      exec (p.command x rest) s = .next (s.answered s bytes 0x02 .badValue [])) ∧
    (∀ n : Lane, rest.length = 5 → rest.getD 0 0 = byte n.val → paramScope p = .lane → s.quiet n = false →
      exec (p.command x rest) s = .next (s.answered s bytes 0x02 .laneBusy [])) ∧
    (∀ i : Strip, rest.length = 5 → rest.getD 0 0 = byte i.val → paramScope p = .strip → s.quiet (laneOf i) = false →
      exec (p.command x rest) s = .next (s.answered s bytes 0x02 .laneBusy [])) ∧
    (∀ b : Boundary, rest.length = 5 → rest.getD 0 0 = byte b.val → paramScope p = .boundary →
      (s.quiet b.castSucc = false ∨ s.quiet b.succ = false) →
      exec (p.command x rest) s = .next (s.answered s bytes 0x02 .laneBusy []))

/-! ### Strip channels (chapter 1) -/

/-- A sample that the channel does not process is ignored (R1). A processed sample with no pulse in progress, no standing load
and d below T_ON advances the idle wait after it has been judged; an idle one enters the idle-sample window and is tested as a
noise sample (R3, R14). One of a pulse in progress joins it with the pending samples, or waits with them (R8); one of a standing
strip acts on the standing end run (R12). -/
def Obligations.SamplesMoveTheirChannel : Prop :=
  ∀ (s : State) (i : Strip) (code : BitVec 16),
    let d := s.dev i code
    let lane := s.par.lane[laneOf i]
    (s.loaded = false ∨ s.scu[i].conn = .underTest ∨ s.shu[i].state = .disabled →
      (∀ k, s.scu[i].conn ≠ .settling k) → exec (.sample i code) s = .next s) ∧
    (s.heard i → s.scu[i].pulse = none → s.scu[i].standing = none → d < lane.tOn → s.scu[i].idleWait < 1600 →
      exec (.sample i code) s = .next (s.sampled i code fun u => { u with idleWait := u.idleWait + 1 })) ∧
    (s.heard i → s.scu[i].pulse = none → s.scu[i].standing = none → d < lane.tOn → s.scu[i].idleWait = 1600 →
      exec (.sample i code) s = .next (s.sampled i code fun u =>
        { u with
          idleWin := newest64 (u.idleWin ++ [code.toInt])
          noises := if lane.nb ≤ d.natAbs then min (u.noises + 1) 65535 else u.noises
          noiseCount := if lane.nb ≤ d.natAbs then min (u.noiseCount + 1) 8000 else u.noiseCount })) ∧
    (∀ p, s.scu[i].pulse = some p → s.heard i → lane.tOff ≤ d → p.total < 3999 →
      exec (.sample i code) s = .next (s.sampled i code fun u =>
        { u with
          pulse := some { p with
            last := s.siteTime
            area := p.area + (p.pend.map fun q => q.1).sum + d.toNat
            clipped := p.clipped || (p.pend.any fun q => q.2) || atLimit code
            pend := []
            total := p.total + 1 } })) ∧
    (∀ p, s.scu[i].pulse = some p → s.heard i → d < lane.tOff → p.total < 3999 → p.pend.length < 3 →
      exec (.sample i code) s = .next (s.sampled i code fun u =>
        { u with pulse := some { p with pend := p.pend ++ [(d.toNat, atLimit code)], total := p.total + 1 } })) ∧
    (∀ st, s.scu[i].standing = some st → s.heard i → s.scu[i].pulse = none → lane.tOff ≤ d →
      exec (.sample i code) s = .next (s.sampled i code fun u => { u with standing := some { st with endRun := 0 } })) ∧
    ∀ st, s.scu[i].standing = some st → s.heard i → s.scu[i].pulse = none → d < lane.tOff → st.endRun < 3 →
      exec (.sample i code) s =
        .next (s.sampled i code fun u => { u with standing := some { st with endRun := st.endRun + 1 } })

/-- A processed sample with d ≥ T_ON, no pulse in progress and no standing load opens the pulse context with R7's values, the
discard mark set for a strip that is OUT_OF_SERVICE (R18); a test in flight on the lane is abandoned: its strip settles, the
abort is counted, the entry returns to the queue with its abort count advanced, and its slot runs on with no work (R55). The
starting sample itself advances the idle wait, up to 1600 (R3, log 22). -/
def Obligations.SampleStartsAPulse : Prop :=
  ∀ (s : State) (i : Strip) (code : BitVec 16), s.heard i → s.scu[i].pulse = none → s.scu[i].standing = none →
    s.par.lane[laneOf i].tOn ≤ s.dev i code →
    let started := s.sampled i code fun u =>
      { u with
        pulse := some
          { first := s.siteTime, last := s.siteTime, area := (s.dev i code).toNat, clipped := atLimit code, pend := []
            total := 1, discard := s.shu[i].state = .outOfService }
        idleWait := min (u.idleWait + 1) 1600 }
    (s.mcs.flight = none → exec (.sample i code) s = .next started) ∧
    (∀ f, s.mcs.flight = some f → laneOf f.entry.strip ≠ laneOf i → exec (.sample i code) s = .next started) ∧
    ∀ f, s.mcs.flight = some f → laneOf f.entry.strip = laneOf i →
      exec (.sample i code) s = .next
        { started with
          scu := upd started.scu f.entry.strip fun u => { u with conn := .settling 0 }
          mcs := { s.mcs with
            queue := insertTest { f.entry with aborts := min (f.entry.aborts + 1) 255 } s.mcs.queue
            flight := none
            work := .stopped
            strip := upd s.mcs.strip f.entry.strip fun t => { t with aborted := min (t.aborted + 1) 65535 } } }

/-- The fourth sample of an end run ends the pulse: its record, without the pending samples, is counted and goes to the delivery
gate, STANDING is withdrawn, and the idle wait starts afresh (R9, R10, R18, R168). The 4000th sample cuts a pulse that it does
not end: its record is LONG, and the strip becomes standing with the end run under way and 60 s on its timer (R11). -/
def Obligations.PulseEndsGiveTheirRecords : Prop :=
  ∀ (s : State) (i : Strip) (code : BitVec 16) (p : PulseCtx), s.scu[i].pulse = some p → s.heard i →
    let d := s.dev i code
    let off := s.par.lane[laneOf i].tOff
    let record (q : PulseCtx) (long : Bool) : PulseRecord :=
      { strip := i, first := q.first, last := q.last, mid := q.first + BitVec.ofNat 32 ((q.last - q.first).toNat / 2)
        area := q.area, clipped := q.clipped, long := long }
    let ended (q : PulseCtx) (long : Bool) (standing : Option Standing) : State := s.sampled i code fun u =>
      { u with
        pulse := none
        standing := standing
        pulses := min (u.pulses + 1) 65535
        clippedPulses := if q.clipped then min (u.clippedPulses + 1) 65535 else u.clippedPulses
        longPulses := if long then min (u.longPulses + 1) 65535 else u.longPulses
        lastEnd := some s.siteTime
        idleWait := 0 }
    let gate (t : State) (r : PulseRecord) : State :=
      if p.discard then t else { t with apu := { t.apu with transit := t.apu.transit ++ [r] } }
    let cut (q : PulseCtx) (run : Nat) : State :=
      gate (ended q true (some { endRun := run, due := s.siteTime + 960000 })) (record q true)
    (d < off → p.pend.length = 3 → s.scu[i].standing = none →
      let t := gate ((ended p false none).evidence i fun c => { c with standing := false }) (record p false)
      exec (.normalEnd i code) s = .next t ∧ exec (.sample i code) s = .next t) ∧
    (off ≤ d → 3999 ≤ p.total →
      let t := cut { p with
        last := s.siteTime
        area := p.area + (p.pend.map fun q => q.1).sum + d.toNat
        clipped := p.clipped || (p.pend.any fun q => q.2) || atLimit code } 0
      exec (.longCut i code) s = .next t ∧ exec (.sample i code) s = .next t) ∧
    (d < off → 3999 ≤ p.total → p.pend.length < 3 →
      exec (.longCut i code) s = .next (cut p (p.pend.length + 1)) ∧
      exec (.sample i code) s = .next (cut p (p.pend.length + 1)))

/-- The fourth sample of a standing end run ends the standing without record or report (R12); a sample in SETTLING is counted,
and the 200th makes the strip CONNECTED and ends its disturbance interval (R16). Both start the idle wait afresh (R3). -/
def Obligations.StandingAndSettlingEnd : Prop :=
  ∀ (s : State) (i : Strip) (code : BitVec 16),
    (∀ st, s.scu[i].standing = some st → s.heard i → s.scu[i].pulse = none → 3 ≤ st.endRun →
      s.dev i code < s.par.lane[laneOf i].tOff →
      let t := s.sampled i code fun u => { u with standing := none, idleWait := 0 }
      exec (.standingEnd i code) s = .next t ∧ exec (.sample i code) s = .next t) ∧
    (∀ k, s.scu[i].conn = .settling k → s.siteTime.toNat % 2 = 0 → k < 199 →
      exec (.sample i code) s = .next { s with scu := upd s.scu i fun u => { u with conn := .settling (k + 1) } }) ∧
    ∀ k, s.scu[i].conn = .settling k → s.siteTime.toNat % 2 = 0 → 199 ≤ k →
      let t := { s with
        scu := upd s.scu i fun u =>
          { u with
            conn := .connected
            disturb := u.disturb.map fun v => { v with stop := some s.siteTime }
            idleWait := 0 } }
      exec (.settlingEnd i code) s = .next t ∧ exec (.sample i code) s = .next t

/-- At an auto-zero expiry the next period starts. A strip that is idle with 64 idle samples moves B one code toward their mean
when the mean lies more than AZ_TOL away; a step outside the window is blocked and pins the strip; a step toward Z clears the
pinned state and withdraws DRIFT (R4, R5). An expiry may be taken late, and the next period counts from it (log 6). -/
def Obligations.AutoZeroMovesOneCode : Prop :=
  ∀ (s : State) (i : Strip), due s.scu[i].azDue s.siteTime →
    let u := s.scu[i]
    let z := s.cst.working.strip[i].z
    let low := max (z - s.par.azl) (-32768)
    let high := min (z + s.par.azl) 32767
    let m := (u.idleWin.sum + 32) / 64
    let moved (f : Scu → Scu) : State :=
      { s with scu := upd s.scu i fun v => f { v with azDue := some (s.siteTime + BitVec.ofNat 32 (s.par.azStep * 160)) } }
    let inward (b : Int) : State :=
      (moved fun v => { v with base := b, pinned := false, pinDue := none }).evidence i fun c => { c with drift := false }
    let idle : Prop := u.conn = .connected ∧ s.shu[i].state ≠ .disabled ∧ u.pulse = none ∧ u.standing = none ∧
      u.idleWait = 1600 ∧ u.idleWin.length = 64
    (¬ idle → exec (.autoZeroStep i) s = .next (moved id)) ∧
    (idle → u.base - s.par.azTol ≤ m → m ≤ u.base + s.par.azTol → exec (.autoZeroStep i) s = .next (moved id)) ∧
    (idle → u.base + s.par.azTol < m → low ≤ u.base + 1 → u.base + 1 ≤ high →
      (z ≤ u.base → exec (.autoZeroStep i) s = .next (moved fun v => { v with base := u.base + 1 })) ∧
      (u.base < z → exec (.autoZeroStep i) s = .next (inward (u.base + 1)))) ∧
    (idle → m < u.base - s.par.azTol → low ≤ u.base - 1 → u.base - 1 ≤ high →
      (u.base ≤ z → exec (.autoZeroStep i) s = .next (moved fun v => { v with base := u.base - 1 })) ∧
      (z < u.base → exec (.autoZeroStep i) s = .next (inward (u.base - 1)))) ∧
    (idle → (u.base + s.par.azTol < m ∧ high < u.base + 1) ∨ (m < u.base - s.par.azTol ∧ u.base - 1 < low) →
      (u.pinned = true → exec (.autoZeroStep i) s = .next (moved id)) ∧
      (u.pinned = false → exec (.autoZeroStep i) s =
        .next (moved fun v => { v with pinned := true, pinDue := some (s.siteTime + 2880000) })))

/-- Six timers: the pinned timer reports DRIFT (R5, R168), the standing timer re-zeroes the strip from its recent samples and
reports STANDING, the withdrawal of DRIFT taken first (R13, R164, R168), the noise window of a CONNECTED strip sets or clears
NOISY, one in UNDER_TEST or SETTLING leaves it, and either starts the next (R15, R167), a lane's hold timer makes its temperature
INVALID (R33), a periodic timer asks for a test of a strip in use (R50), a holdoff timer stops (R172). A timer is the site time of
its expiry (log 6), and each of the re-zero's two reports is followed by its own re-evaluation (log 14). -/
def Obligations.TimersExpire : Prop :=
  ∀ (s : State) (i : Strip) (n : Lane),
    let channel (f : Scu → Scu) : State := { s with scu := upd s.scu i f }
    (due s.scu[i].pinDue s.siteTime → exec (.pinnedTimerExpiry i) s =
      .next ((channel fun u => { u with pinDue := none }).evidence i fun c => { c with drift := true })) ∧
    (∀ st, s.scu[i].standing = some st → due (some st.due) s.siteTime →
      let z := s.cst.working.strip[i].z
      let withdrawn := (channel fun u =>
        { u with
          base := max (max (z - s.par.azl) (-32768)) (min ((u.recentWin.sum + 32) / 64) (min (z + s.par.azl) 32767))
          standing := none
          idleWait := 0
          pinned := false
          pinDue := none }).evidence i fun c => { c with drift := false }
      exec (.standingTimerExpiry i) s = .next (withdrawn.evidence i fun c => { c with standing := true })) ∧
    (due s.scu[i].noiseDue s.siteTime →
      let noisy : Bool := s.par.lane[laneOf i].noiseLim ≤ s.scu[i].noiseCount
      let next (u : Scu) : Scu := { u with noiseCount := 0, noiseDue := some (s.siteTime + 16000) }
      (s.scu[i].conn = .connected → exec (.noiseWindowEnd i) s = .next
        ((channel fun u => { next u with noisyLive := noisy, noisyLatched := u.noisyLatched || noisy }).evidence i
          fun c => { c with noise := noisy })) ∧
      (s.scu[i].conn ≠ .connected → exec (.noiseWindowEnd i) s = .next
        ((channel next).evidence i fun c => { c with noise := s.scu[i].noisyLive }))) ∧
    (due s.ptu.lane[n].holdDue s.siteTime → exec (.holdTimerExpiry n) s = .next
      { s with
        ptu := { s.ptu with lane := upd s.ptu.lane n fun l => { l with validity := .invalid, holdDue := none } } }) ∧
    (due s.mcs.strip[i].periodicDue s.siteTime → 0 < s.par.testPeriod →
      let m := if s.shu[i].state = .outOfService ∨ s.shu[i].state = .disabled then s.mcs else s.mcs.request i .periodic
      exec (.periodicTimerExpiry i) s = .next
        { s with
          mcs := { m with
            strip := upd m.strip i fun t =>
              { t with periodicDue := some (s.siteTime + BitVec.ofNat 32 (s.par.testPeriod * 960000)) } } }) ∧
    (due s.shu[i].holdoffDue s.siteTime → exec (.holdoffExpiry i) s =
      .next { s with shu := upd s.shu i fun h => { h with holdoffDue := none } })

/-! ### Temperatures, the converter schedule and the tests (chapters 2 and 3) -/

/-- A slot that converted a probe ends: the reading is stored and acts on the probe by its state, a new F moves minimum, maximum
and the alarm units, and the lanes recompute (R23 to R26, R28 to R30, R45). The slot position moves on to the next slot of the
frame that is not removed, at a frame start that of the pending frame (R42, R43); here that slot has the rule IDLE and no work
(R44), and SlotsRunATest says what any other slot does with the state that the reading leaves. The reading is an operand (log 13);
a boundary may be taken late, and the next slot's end counts from it (log 6). -/
def Obligations.ProbeSlotHandsOverItsReading : Prop :=
  ∀ (s : State) (p : Probe) (frame : Vector Slot 4) (k : Fin 4) (code : BitVec 16), due s.mcs.slotDue s.siteTime →
    s.mcs.work = .probe p → s.mcs.flight = none → s.mcs.begins frame k → frame[k].rule = .idle →
    let r := code.toInt
    let u := s.ptu.probe[p]
    let inside : Prop := -800 ≤ r ∧ r ≤ 1600
    let leaves (t : State) : Prop := s.reading p r = t ∧ exec (.slotBoundary code) s =
      .next { t with
        mcs := { s.mcs with
          prev := .probed
          frame := frame
          pos := k
          slotDue := some (s.siteTime + BitVec.ofNat 32 (frame[k].len * 16))
          work := .none } }
    let read (f : ProbeUnit → ProbeUnit) : State :=
      { s with ptu := { s.ptu with probe := upd s.ptu.probe p fun v => f { v with last := r } } }
    let newF (f : Int) (g : ProbeUnit → ProbeUnit) : State :=
      (read fun v => g { v with
        filt := f, fMin := min v.fMin f, fMax := max v.fMax f, hot := v.hot.hotEval f, cold := v.cold.coldEval f
        spikeRun := 0, outRun := 0 }).recomputeLanes
    let failed (v : ProbeUnit) : ProbeUnit := { v with state := .fault, outRun := v.outRun + 1, inRun := 0, faultEvent := true }
    (u.state = .disabled → leaves s) ∧
    (u.state = .unknown → inside → leaves (newF r fun v => { v with state := .valid })) ∧
    (u.state = .unknown → ¬ inside →
      leaves (read fun v => if v.outRun + 1 < 2 then { v with outRun := v.outRun + 1 } else failed v)) ∧
    (u.state = .valid → inside → (r - u.filt).natAbs ≤ 32 → leaves (newF (u.filt + (r - u.filt + 2) / 4) id)) ∧
    (u.state = .valid → inside → 32 < (r - u.filt).natAbs → u.spikeRun < 2 →
      leaves (read fun v => { v with outRun := 0, spikeRun := v.spikeRun + 1 })) ∧
    (u.state = .valid → inside → 32 < (r - u.filt).natAbs → 2 ≤ u.spikeRun → leaves (newF r id)) ∧
    (u.state = .valid → ¬ inside → u.outRun = 0 → leaves (read fun v => { v with outRun := 1 })) ∧
    (u.state = .valid → ¬ inside → 1 ≤ u.outRun →
      leaves (read fun v => { failed v with spikeRun := 0 }).recomputeLanes) ∧
    (u.state = .fault → ¬ inside → leaves (read fun v => { v with inRun := 0 })) ∧
    (u.state = .fault → inside → u.inRun = 0 → leaves (read fun v => { v with inRun := 1 })) ∧
    (u.state = .fault → inside → 1 ≤ u.inRun →
      leaves (newF r fun v => { v with state := .valid, inRun := 0 }))

/-- A recomputation gives every lane its mapped probe's F, else the floored mean of the VALID probes, else it holds the old value
(R32, R33); a HOT unit evaluates a new F by its effective mode, a COLD unit with the comparisons turned round (R36 to R38). -/
def Obligations.LanesAndAlarmsTakeANewF : Prop :=
  (∀ (s : State) (n : Lane),
    let p := s.ptu.probe[s.par.lane[n].probeMap]
    let fs := (s.ptu.probe.toList.filter fun u => u.state = .valid).map fun u => u.filt
    let old := s.ptu.lane[n]
    let lane := s.recomputeLanes.ptu.lane[n]
    (p.state = .valid → lane = { tl := p.filt, validity := .valid, source := .mapped, holdDue := none }) ∧
    (p.state ≠ .valid → fs ≠ [] →
      lane = { tl := fs.sum / fs.length, validity := .valid, source := .mean, holdDue := none }) ∧
    (fs = [] → old.validity = .valid → 0 < s.par.tempHold → lane = { old with
      source := .none, validity := .held, holdDue := some (s.siteTime + BitVec.ofNat 32 (s.par.tempHold * 16000)) }) ∧
    (fs = [] → old.validity = .valid → s.par.tempHold = 0 → lane = { old with source := .none, validity := .invalid }) ∧
    (fs = [] → old.validity ≠ .valid → lane = old)) ∧
  (∀ s : State, s.recomputeLanes = { s with ptu := { s.ptu with lane := s.recomputeLanes.ptu.lane } }) ∧
  ∀ (a : Alarm) (f : Int),
    let out (tripped event : Bool) : Alarm := { a with tripped := tripped, event := event }
    let comparator (beyond : Bool) : Alarm := out a.tripped (a.event || beyond)
    let latching (beyond back both : Bool) : Alarm :=
      if a.tripped then (if back then out false (a.event || both) else a)
      else if beyond then out true true else a
    a.hotEval f =
      (if a.trip ≤ a.hyst ∨ a.mode = .comparator then comparator (a.trip < f)
      else latching (a.trip < f) (f < a.hyst) (a.mode = .twoEvent)) ∧
    a.coldEval f =
      (if a.hyst ≤ a.trip ∨ a.mode = .comparator then comparator (f < a.trip)
      else latching (f < a.trip) (a.hyst < f) (a.mode = .twoEvent))

/-- A slot ends with its work and the next one chooses its own. The ended slot leaves nothing (IDLE), a test stopped before
(ABORTED, R55, R56, R59), a probe's reading (PROBED, as ProbeSlotHandsOverItsReading says), or a read code, which is judged and
handed to the SHU (READ_DONE, R54, R171). A READ slot behind a charge begins the read phase; any other slot there, or a READ slot
too short, abandons the test (ABORTED, R46, R55). Then the rule chooses: the first eligible entry is charged when a READ slot
follows (R44, R52, R53); a PROBE slot, and a CHARGE_ELSE_PROBE slot when no test can be taken, take the first enabled probe from
the pointer on, which moves behind it (R45); a READ slot without a charge before it stays idle (R46); work that does not fit
latches SCHEDULE_SHORT (R44). At a frame start the pending frame comes into force first (R42, R43). A boundary may be taken late
and the next slot's end counts from it (log 6); the code is an operand (log 13). Some slot of the pending frame is not removed
(StepsKeepParametersInRange). -/
def Obligations.SlotsRunATest : Prop :=
  ∀ (s : State) (frame : Vector Slot 4) (k : Fin 4) (code : BitVec 16), due s.mcs.slotDue s.siteTime →
    s.mcs.begins frame k → (∃ j : Fin 4, s.mcs.pendingFrame[j].len ≠ 0) →
    let slot := frame[k]
    let moved (m : Mcs) (prev : SlotOutcome) (work : Work) : Mcs :=
      { m with
        prev := prev, frame := frame, pos := k, slotDue := some (s.siteTime + BitVec.ofNat 32 (slot.len * 16)), work := work }
    let settled (i : Strip) : State := { s with scu := upd s.scu i fun u => { u with conn := .settling 0 } }
    let short (t : State) : State := { t with cpt := { t.cpt with scheduleShort := true } }
    let dropped (f : Flight) : State := { settled f.entry.strip with
      mcs := { s.mcs with
        queue := insertTest { f.entry with aborts := min (f.entry.aborts + 1) 255 } s.mcs.queue
        flight := none
        strip := upd s.mcs.strip f.entry.strip fun t => { t with aborted := min (t.aborted + 1) 65535 } } }
    let pass : Bool := s.par.testLimit ≤ code.toNat
    let judged (f : Flight) : State := ({ settled f.entry.strip with
      mcs := { s.mcs with
        flight := none
        strip := upd s.mcs.strip f.entry.strip fun t =>
          { t with
            lastCode := some code.toNat
            passed := if pass then min (t.passed + 1) 65535 else t.passed
            failed := if pass then t.failed else min (t.failed + 1) 65535
            periodicDue :=
              if 0 < s.par.testPeriod then some (s.siteTime + BitVec.ofNat 32 (s.par.testPeriod * 960000)) else none } } } :
      State).testResult f.entry.strip pass
    let ended (t : State) (o : SlotOutcome) : Prop :=
      (s.mcs.flight = none ∧ s.mcs.work = .none ∧ t = s ∧ o = .idle) ∨
      (s.mcs.flight = none ∧ s.mcs.work = .stopped ∧ t = s ∧ o = .aborted) ∨
      (∃ p, s.mcs.flight = none ∧ s.mcs.work = .probe p ∧ t = s.reading p code.toInt ∧ o = .probed) ∨
      (∃ f, s.mcs.flight = some f ∧ s.mcs.work = .read ∧ t = judged f ∧ o = .readDone) ∨
      (∃ f, s.mcs.flight = some f ∧ s.mcs.work = .charge ∧ slot.rule ≠ .read ∧ t = dropped f ∧ o = .aborted) ∨
      (∃ f, s.mcs.flight = some f ∧ s.mcs.work = .charge ∧ slot.rule = .read ∧ slot.len < 10 ∧ t = short (dropped f) ∧
        o = .aborted)
    (∀ f, s.mcs.flight = some f → s.mcs.work = .charge → slot.rule = .read → 10 ≤ slot.len → exec (.slotBoundary code) s =
      .next { s with mcs := moved { s.mcs with flight := some { f with phase := .read } } .charged .read }) ∧
    ∀ (t : State) (o : SlotOutcome), ended t o →
      let ready (e : TestEntry) : Prop :=
        (t.shu[e.strip].state = .inService ∨ t.shu[e.strip].state = .suspect ∨
          (e.origin = .recover ∧ t.shu[e.strip].state = .recovering)) ∧
        t.scu[e.strip].conn = .connected ∧ t.quiet (laneOf e.strip) = true
      let turn (d : Fin 4) : Prop := t.ptu.probe[t.mcs.pointer + d].state ≠ .disabled ∧
        ∀ e : Fin 4, e < d → t.ptu.probe[t.mcs.pointer + e].state = .disabled
      let then_ (f : Vector Slot 4) (j : Fin 4) : Prop := ({ s.mcs with frame := frame, pos := k } : Mcs).begins f j
      let noTest : Prop := ∀ f j, then_ f j → f[j].rule = .read → ∀ q ∈ t.mcs.queue, ¬ ready q
      let converts : Prop := slot.rule = .probe ∨ (slot.rule = .chargeElseProbe ∧ noTest)
      let idles : State := { t with mcs := moved t.mcs o .none }
      (∀ f j (a b : List TestEntry) (e : TestEntry), slot.rule = .chargeElseProbe ∨ slot.rule = .chargeElseIdle →
        then_ f j → f[j].rule = .read → t.mcs.queue = a ++ e :: b → (∀ q ∈ a, ¬ ready q) → ready e →
        (50 ≤ slot.len → 10 ≤ f[j].len → exec (.slotBoundary code) s = .next
          { t with
            scu := upd t.scu e.strip fun u =>
              { u with conn := .underTest, disturb := some { start := s.siteTime, stop := none } }
            mcs := moved
              { t.mcs with
                queue := t.mcs.queue.filter fun q => q.strip ≠ e.strip
                flight := some { entry := e, phase := .charge } }
              o .charge }) ∧
        (slot.len < 50 ∨ f[j].len < 10 → exec (.slotBoundary code) s = .next (short idles))) ∧
      (∀ d, converts → turn d →
        (20 ≤ slot.len → exec (.slotBoundary code) s = .next
          { t with
            mcs := moved { t.mcs with pointer := t.mcs.pointer + d + 1 } o (.probe (t.mcs.pointer + d)) }) ∧
        (slot.len < 20 → exec (.slotBoundary code) s = .next (short idles))) ∧
      (converts → (∀ p : Probe, t.ptu.probe[p].state = .disabled) → exec (.slotBoundary code) s = .next idles) ∧
      ((slot.rule = .chargeElseIdle ∧ noTest) ∨ slot.rule = .read ∨ slot.rule = .idle →
        exec (.slotBoundary code) s = .next idles)

/-- A test request for a strip that is neither queued nor in flight enters the queue as a new entry, in the queue's order; one of
a higher origin raises the strip's entry with a fresh arrival stamp; any other is ignored (R48). An entry that returns to the
queue with its own stamp takes its place in the same order (R47). -/
def Obligations.TestRequestTakesItsPlace : Prop :=
  ∀ (m : Mcs) (i : Strip) (o : Origin),
    let ordered (q : List TestEntry) : Prop :=
      q.Pairwise fun a b => a.origin.rank < b.origin.rank ∨ (a.origin.rank = b.origin.rank ∧ a.stamp < b.stamp)
    (∀ f, m.flight = some f → f.entry.strip = i →
      (o.rank < f.entry.origin.rank → m.request i o =
        { m with flight := some { f with entry := { f.entry with origin := o, stamp := m.stamps } }, stamps := m.stamps + 1 }) ∧
      (f.entry.origin.rank ≤ o.rank → m.request i o = m)) ∧
    ((∀ f, m.flight = some f → f.entry.strip ≠ i) →
      (∀ e ∈ m.queue, e.strip = i → (∀ q ∈ m.queue, q.strip = i → q = e) →
        (e.origin.rank ≤ o.rank → m.request i o = m) ∧
        (o.rank < e.origin.rank → ∃ q : List TestEntry, m.request i o = { m with queue := q, stamps := m.stamps + 1 } ∧
          q.Perm ({ e with origin := o, stamp := m.stamps } :: m.queue.filter fun x => x.strip ≠ i))) ∧
      ((∀ e ∈ m.queue, e.strip ≠ i) →
        ∃ q : List TestEntry, m.request i o = { m with queue := q, stamps := m.stamps + 1 } ∧
          q.Perm ({ strip := i, origin := o, aborts := 0, stamp := m.stamps } :: m.queue))) ∧
    (ordered m.queue → (∀ e ∈ m.queue, e.stamp < m.stamps) → ordered (m.request i o).queue) ∧
    ∀ e : TestEntry, (insertTest e m.queue).Perm (e :: m.queue) ∧
      (ordered m.queue → (∀ x ∈ m.queue, x.stamp ≠ e.stamp) → ordered (insertTest e m.queue))

/-! ### Strip health (chapter 9) -/

/-- A change of the cause set of a strip in IN_SERVICE or SUSPECT moves its service state with it and asks for a SUSPECT test at
the entry into SUSPECT (R163, R164); a test result acts by R169's table, a second fail and a fail in RECOVERING taking the strip
out of service with its holdoff timer started, its pulse marked for discard and its buffer purged (R18, R67, R170). A record of
the strip in transit goes with the purge (log 5). -/
def Obligations.EvidenceAndResultsMoveTheServiceState : Prop :=
  (∀ (s : State) (i : Strip) (f : Causes → Causes),
    let h := s.shu[i]
    let set (v : Health) : State := { s with shu := upd s.shu i fun _ => v }
    (f h.causes = h.causes ∨ h.state = .disabled → s.evidence i f = s) ∧
    (f h.causes ≠ h.causes → h.state = .inService → (f h.causes).any = true →
      s.evidence i f = { set { h with causes := f h.causes, state := .suspect, changed := true, leftService := true } with
        mcs := s.mcs.request i .suspect }) ∧
    (f h.causes ≠ h.causes → h.state = .suspect → (f h.causes).any = false →
      s.evidence i f = set { h with causes := f h.causes, state := .inService, changed := true }) ∧
    (f h.causes ≠ h.causes →
      h.state = .outOfService ∨ h.state = .recovering ∨ (h.state = .suspect ∧ (f h.causes).any = true) ∨
        (h.state = .inService ∧ (f h.causes).any = false) →
      s.evidence i f = set { h with causes := f h.causes })) ∧
  ∀ (s : State) (i : Strip),
    let h := s.shu[i]
    let set (v : Health) : State := { s with shu := upd s.shu i fun _ => v }
    let failed : Causes := { h.causes with testFail := true }
    let out : State := { set { h with
        state := .outOfService, causes := failed, failCount := 0, changed := true
        leftService := h.leftService || h.state = .inService
        holdoffDue := some (s.siteTime + BitVec.ofNat 32 (s.par.holdoff * 960000)) } with
      scu := upd s.scu i fun u => { u with pulse := u.pulse.map fun p => { p with discard := true } }
      apu := { s.apu with
        side := upd s.apu.side i fun _ => []
        transit := s.apu.transit.filter fun r => r.strip ≠ i } }
    (h.state = .disabled → s.testResult i true = s ∧ s.testResult i false = s) ∧
    (h.state = .inService ∨ h.state = .suspect →
      s.testResult i true = (set { h with failCount := 0 }).evidence i (fun c => { c with testFail := false }) ∧
      (h.failCount = 1 → s.testResult i false = out) ∧
      (h.failCount = 0 →
        s.testResult i false = (set { h with failCount := 1 }).evidence i fun c => { c with testFail := true })) ∧
    (h.state = .recovering →
      s.testResult i true =
        set { h with state := .inService, causes := Causes.none, missCount := 0, failCount := 0, changed := true } ∧
      s.testResult i false = out) ∧
    (h.state = .outOfService →
      s.testResult i true = set { h with causes := { h.causes with testFail := false } } ∧
      s.testResult i false = set { h with causes := failed })

/-- A miss advances both counts, sets MISS at MISS_LIM and takes a strip in service out at 4 × MISS_LIM, its holdoff timer
started, its pulse marked for discard and its buffer purged, and never one that is RECOVERING (R18, R67, R165, R170); a
contribution returns the miss count to 0 and withdraws MISS (R166). A strip disturbed at the reference time or at the report's is
excused (R17, R70). A record of the strip in transit goes with the purge (log 5). -/
def Obligations.MissesAndContributions : Prop :=
  ∀ (s : State) (i : Strip), s.shu[i].state ≠ .outOfService → s.shu[i].state ≠ .disabled →
    let h := s.shu[i]
    let count := min (h.missCount + 1) 255
    let set (f : Health → Health) : State := { s with shu := upd s.shu i f }
    let counted (v : Health) : Health := { v with missCount := count, misses := min (v.misses + 1) 65535 }
    (h.state = .recovering → s.miss i = set fun v =>
      { counted v with causes := { v.causes with miss := v.causes.miss || s.par.missLim ≤ count } }) ∧
    (h.state ≠ .recovering → count < s.par.missLim → count < 4 * s.par.missLim → s.miss i = set counted) ∧
    (h.state ≠ .recovering → s.par.missLim ≤ count → count < 4 * s.par.missLim →
      s.miss i = (set counted).evidence i fun c => { c with miss := true }) ∧
    (h.state ≠ .recovering → 4 * s.par.missLim ≤ count → s.miss i =
      { set (fun v =>
          { counted v with
            state := .outOfService
            causes := { v.causes with miss := true }
            failCount := 0
            changed := true
            leftService := v.leftService || v.state = .inService
            holdoffDue := some (s.siteTime + BitVec.ofNat 32 (s.par.holdoff * 960000)) }) with
        scu := upd s.scu i fun u => { u with pulse := u.pulse.map fun p => { p with discard := true } }
        apu := { s.apu with
          side := upd s.apu.side i fun _ => []
          transit := s.apu.transit.filter fun r => r.strip ≠ i } }) ∧
    s.contribution i = ((set fun v => { v with missCount := 0 }).evidence i fun c => { c with miss := false }) ∧
    ∀ ref : Time,
      let within (d : Disturb) (t : Time) : Prop := (t - d.start).toNat < 2147483648 ∧
        ∀ e, d.stop = some e → 0 < (e - t).toNat ∧ (e - t).toNat < 2147483648
      (∀ d, s.scu[i].disturb = some d → within d ref ∨ within d s.siteTime → s.missReport i ref = s) ∧
      ((∀ d, s.scu[i].disturb = some d → ¬ within d ref ∧ ¬ within d s.siteTime) → s.missReport i ref = s.miss i)

/-! ### Row hits and axle pairing (chapter 4) -/

/-- The strip's oldest delivered pulse arrives. With an opposite pulse within W_LR waiting, the oldest such leaves its buffer and
the two form a full row hit after both strips' contributions (R61, R62, R69); with none, the pulse waits until its lone expiry
(R60, R61), also one that is already reached (log 30), and a fifth forces the head to resolve as lone, as
LonePulsesStraddleOrHalve says (R63, R66). Delivered records
wait in transit (log 5), and a weighing follows the reports (log 31). -/
def Obligations.PulseArrivalPairsOrWaits : Prop :=
  ∀ (s : State) (i : Strip) (a b : List PulseRecord) (r : PulseRecord), s.apu.transit = a ++ r :: b →
    (∀ q ∈ a, q.strip ≠ i) → r.strip = i → s.par.lane[laneOf i].wLr ≤ 400 →
    let w := s.par.lane[laneOf i].wLr
    let near (x : Waiting) : Prop := (x.pulse.mid - r.mid).toNat ≤ w ∨ (r.mid - x.pulse.mid).toNat ≤ w
    let other := s.apu.side[partnerOf i]
    let waiting : Waiting := { pulse := r, expiry := r.mid + BitVec.ofNat 32 (w + (r.last - r.first).toNat) }
    let now (j : Strip) (l : List Waiting) : State :=
      { s with apu := { s.apu with transit := a ++ b, side := upd s.apu.side j fun _ => l } }
    ((∀ x ∈ other, ¬ near x) → s.apu.side[i].length < 4 →
      exec (.pulseArrival i) s = .next (now i (s.apu.side[i] ++ [waiting]))) ∧
    (∀ (head : Waiting) (rest : List Waiting), (∀ x ∈ other, ¬ near x) → s.apu.side[i] = head :: rest → rest.length = 3 →
      exec (.pulseArrival i) s = .next ((now i (rest ++ [waiting])).resolveLone head.pulse)) ∧
    ∀ (xs ys : List Waiting) (x : Waiting), other = xs ++ x :: ys → (∀ y ∈ xs, ¬ near y) → near x →
      x.pulse.strip = partnerOf i →
      let q := x.pulse
      let code (c : Bool) (f : CodeSet) : CodeSet := if c then f else 0
      let hit : RowHit :=
        { lane := laneOf i
          row := rowOf i
          kind := .full
          time :=
            if (q.mid - r.mid).toNat ≤ w then r.mid + BitVec.ofNat 32 ((q.mid - r.mid).toNat / 2)
            else q.mid + BitVec.ofNat 32 ((r.mid - q.mid).toNat / 2)
          left := some (if isLeft i then r else q)
          right := some (if isLeft i then q else r)
          flags := code (r.clipped || q.clipped) flagClipped ||| code (r.long || q.long) flagLong }
      exec (.pulseArrival i) s =
        .next ((((now (partnerOf i) (xs ++ ys)).contribution i).contribution q.strip).routeHit hit)

/-- A waiting pulse at its lone expiry leaves its buffer and resolves as lone. With STRADDLE_EN and a pulse across the boundary
within W_LR of the lower lane, the two form a straddle row hit of that lane, the lower lane's pulse its right wheel (R63, R64);
otherwise it forms a half row hit whose flag says why the other side is empty, and with HALF_AXLE the partner strip receives a
miss (R17, R65). An expiry may be taken late (log 6), and a weighing follows the reports (log 31). -/
def Obligations.LonePulsesStraddleOrHalve : Prop :=
  (∀ (s : State) (i : Strip) (k : Fin 4) (w : Waiting), s.apu.side[i][k.val]? = some w → due (some w.expiry) s.siteTime →
    exec (.loneExpiry i k) s = .next
      (({ s with apu := { s.apu with side := upd s.apu.side i fun l => l.eraseIdx k.val } } : State).resolveLone w.pulse)) ∧
  ∀ (s : State) (r : PulseRecord),
    let i := r.strip
    let near (b : Boundary) (x : Waiting) : Prop :=
      (x.pulse.mid - r.mid).toNat ≤ s.par.lane[b.castSucc].wLr ∨ (r.mid - x.pulse.mid).toNat ≤ s.par.lane[b.castSucc].wLr
    let astride (b : Boundary) (j : Strip) : Prop :=
      (i.val % 2 = 0 ∧ i.val / 4 = b.val ∧ j.val = i.val + 5) ∨ (i.val % 2 = 1 ∧ i.val / 4 = b.val + 1 ∧ i.val = j.val + 5)
    let code (c : Bool) (f : CodeSet) : CodeSet := if c then f else 0
    let half (why : CodeSet) : RowHit :=
      { lane := laneOf i, row := rowOf i, kind := .half, time := r.mid
        left := if isLeft i then some r else none
        right := if isLeft i then none else some r
        flags := code r.clipped flagClipped ||| code r.long flagLong ||| why }
    ((∀ (b : Boundary) (j : Strip), astride b j → s.par.straddleEn[b] = false ∨ ∀ x ∈ s.apu.side[j], ¬ near b x) →
      let p := partnerOf i
      let gone : Prop := s.shu[p].state = .outOfService ∨ s.shu[p].state = .disabled
      let blind : Prop := ∃ d, s.scu[p].disturb = some d ∧ (r.mid - d.start).toNat < 2147483648 ∧
        ∀ e, d.stop = some e → 0 < (e - r.mid).toNat ∧ (e - r.mid).toNat < 2147483648
      (gone → s.resolveLone r = (s.contribution i).routeHit (half flagStripOut)) ∧
      (¬ gone → blind → s.resolveLone r = (s.contribution i).routeHit (half flagTestDisturbed)) ∧
      (¬ gone → ¬ blind → s.resolveLone r = ((s.contribution i).missReport p r.mid).routeHit (half flagHalfAxle))) ∧
    ∀ (b : Boundary) (j : Strip) (xs ys : List Waiting) (x : Waiting), astride b j → s.par.straddleEn[b] = true →
      s.apu.side[j] = xs ++ x :: ys → (∀ y ∈ xs, ¬ near b y) → near b x → x.pulse.strip = j →
      let right := if isLeft i then r else x.pulse
      let left := if isLeft i then x.pulse else r
      let t : State := { s with apu := { s.apu with side := upd s.apu.side j fun _ => xs ++ ys } }
      let hit : RowHit :=
        { lane := b.castSucc, row := rowOf i, kind := .straddle
          time :=
            if (left.mid - right.mid).toNat < 2147483648 then right.mid + BitVec.ofNat 32 ((left.mid - right.mid).toNat / 2)
            else left.mid + BitVec.ofNat 32 ((right.mid - left.mid).toNat / 2)
          left := some left
          right := some right
          flags := flagStraddle ||| code (right.clipped || left.clipped) flagClipped |||
            code (right.long || left.long) flagLong }
      s.resolveLone r = ((t.contribution i).contribution j).routeHit hit

/-- When site time has passed an entry's hit time plus its upper bound, the entry leaves its queue and the downstream row's
strips receive misses, the L strip alone for a straddle; with a vehicle in progress it is handed over as an upstream-only axle
with the borrowed speed, without one it is an orphan (R73, R77, R78, R81). An expiry may be taken late (log 6), and a weighing
follows the misses (log 31). -/
def Obligations.EntryExpiryResolvesUpstreamOnly : Prop :=
  ∀ (s : State) (n : Lane) (k : Fin 4) (e : QueueEntry), s.apu.queue[n][k.val]? = some e → e.hit.lane = n →
    let late := (s.siteTime - (e.hit.time + BitVec.ofNat 32 e.upper)).toNat
    0 < late → late < 2147483648 →
    let t : State := { s with apu := { s.apu with queue := upd s.apu.queue n fun q => q.eraseIdx k.val } }
    let first := t.missReport (stripAt n 2) e.hit.time
    let m := if e.hit.kind = .straddle then first else first.missReport (stripAt n 3) e.hit.time
    exec (.entryExpiry n k) s = .next (upstreamResolved t n e) ∧
    (s.vau.lane[n].ctx = .empty → exec (.entryExpiry n k) s =
      .next { m with apu := { m.apu with orphans := upd m.apu.orphans n fun c => min (c + 1) 65535 } }) ∧
    ∀ v, s.vau.lane[n].ctx.vLast? = some v → exec (.entryExpiry n k) s =
      .next (m.handOver
        { lane := n, up := some e.hit, down := none, ref := e.hit.time, delta := none, borrowed := some v
          straddle := if e.hit.kind = .straddle then some n.val else none
          flags := e.hit.flags ||| flagBorrowedSpeed ||| flagSingleRow })

/-- An upstream row hit enters its lane's queue by its age with the window of R71, full without and expected with a vehicle in
progress; already expired it resolves at once, and in a full queue the oldest of the five does (R71, R72). A downstream row hit
takes the oldest entry whose window holds the interval and whose side pattern fits; the entries ahead of it resolve first (R74,
R75). Without such an entry the upstream row's strips receive misses, the L strip alone for a straddle, and it becomes a
downstream-only axle with the borrowed speed, or an orphan in a lane without a vehicle (R76, R78, R81). A weighing follows the
misses of its event (log 31). -/
def Obligations.UpstreamHitsWaitDownstreamHitsMatch : Prop :=
  (∀ (s : State) (h : RowHit) (a b : List QueueEntry), h.row = .up → s.apu.queue[h.lane] = a ++ b → a.length + b.length ≤ 4 →
    let age (t : Time) : Nat := (s.siteTime - t).toNat
    (∀ e ∈ a, age h.time ≤ age e.hit.time) → (∀ e ∈ b.head?, age e.hit.time < age h.time) →
    let spacing := s.cst.working.lane[h.lane].spacing
    let low := (spacing * 16000 + 69443) / 69444
    let high := spacing * 16000 / 556
    let tol := s.par.lane[h.lane].spdTol
    let queued (q : List QueueEntry) : State :=
      { s with apu := { s.apu with queue := upd s.apu.queue h.lane fun _ => q } }
    let enters (lo hi : Nat) : Prop :=
      let new : QueueEntry := { hit := h, lower := lo, upper := hi }
      let late := age (h.time + BitVec.ofNat 32 hi)
      (0 < late → late < 2147483648 → s.routeHit h = upstreamResolved s h.lane new) ∧
      (late = 0 ∨ 2147483648 ≤ late →
        (a.length + b.length < 4 → s.routeHit h = queued (a ++ new :: b)) ∧
        ∀ oldest rest, a ++ new :: b = oldest :: rest → rest.length = 4 →
          s.routeHit h = upstreamResolved (queued rest) h.lane oldest)
    (s.vau.lane[h.lane].ctx = .empty → enters low high) ∧
    ∀ v, s.vau.lane[h.lane].ctx.vLast? = some v →
      enters (max low (spacing * 16000 / v * (100 - tol) / 100)) (min high (spacing * 16000 / v * (100 + tol) / 100))) ∧
  ∀ (s : State) (d : RowHit), d.row = .down →
    let n := d.lane
    let delta (x : QueueEntry) : Nat := (d.time - x.hit.time).toNat
    let pattern (h : RowHit) : SidePattern :=
      match h.kind with
      | .full => .full
      | .straddle => .straddle
      | .half => if h.left.isSome then .leftHalf else .rightHalf
    let fits (x : QueueEntry) : Prop := (pattern x.hit, pattern d) ∈
      [(SidePattern.full, SidePattern.full), (.full, .leftHalf), (.full, .rightHalf), (.leftHalf, .full),
        (.leftHalf, .leftHalf), (.leftHalf, .straddle), (.rightHalf, .full), (.rightHalf, .rightHalf), (.straddle, .full),
        (.straddle, .leftHalf), (.straddle, .straddle)]
    let takes (x : QueueEntry) : Prop := delta x < 2147483648 ∧ x.lower ≤ delta x ∧ delta x ≤ x.upper ∧ fits x
    (∀ (a b : List QueueEntry) (e : QueueEntry), s.apu.queue[n] = a ++ e :: b → e.hit.lane = n → (∀ x ∈ a, ¬ takes x) →
      takes e →
      let start : State := { s with apu := { s.apu with queue := upd s.apu.queue n fun _ => b } }
      s.routeHit d = (a.foldl (fun t x => upstreamResolved t n x) start).handOver
        { lane := n, up := some e.hit, down := some d, ref := e.hit.time, delta := some (delta e), borrowed := none
          straddle := if e.hit.kind = .straddle ∨ d.kind = .straddle then some n.val else none
          flags := e.hit.flags ||| d.flags }) ∧
    ((∀ x ∈ s.apu.queue[n], ¬ takes x) →
      let first := s.missReport (stripAt n 0) d.time
      let m := if d.kind = .straddle then first else first.missReport (stripAt n 1) d.time
      (s.vau.lane[n].ctx = .empty →
        s.routeHit d = { m with apu := { m.apu with orphans := upd m.apu.orphans n fun c => min (c + 1) 65535 } }) ∧
      ∀ v, s.vau.lane[n].ctx.vLast? = some v →
        s.routeHit d = m.handOver
          { lane := n, up := none, down := some d
            ref := d.time - BitVec.ofNat 32 (s.cst.working.lane[n].spacing * 16000 / v)
            delta := none, borrowed := some v
            straddle := if d.kind = .straddle then some n.val else none
            flags := d.flags ||| flagBorrowedSpeed ||| flagSingleRow })

/-! ### Weighing and vehicles (chapters 5 and 6) -/

/-- The temperature-interpolated gain of R86 and R87: K8 at the clamped temperature 1280, below it K(i) plus the rounded fraction
of the step to K(i+1); it lies between the gains at the two breakpoints around it. The effective gain of R88 scales it by the
trim, rounded half up and saturated: a trim of 0 leaves it, and it lies from 1 to 65535. -/
def Obligations.GainLiesBetweenItsBreakpoints : Prop :=
  (∀ (c : StripCal) (tl : Int),
    let t := max (-640) (min tl 1280)
    (t = 1280 → c.gainAt tl = c.k[8]) ∧
    ∀ i : Fin 8,
      let low : Int := c.k[i.castSucc]
      let high : Int := c.k[i.succ]
      (240 * (i.val : Int) - 640 ≤ t → t < 240 * (i.val : Int) - 400 →
        c.gainAt tl = low + ((high - low) * (t + 640 - 240 * (i.val : Int)) + 120) / 240) ∧
      (240 * (i.val : Int) - 640 ≤ t → t ≤ 240 * (i.val : Int) - 400 →
        min low high ≤ c.gainAt tl ∧ c.gainAt tl ≤ max low high)) ∧
  ∀ kt trim : Int, 1 ≤ kt → kt ≤ 65535 → -512 ≤ trim → trim ≤ 511 →
    let k := effectiveGain kt trim
    k = min 65535 ((kt * (4096 + trim) + 2048) / 4096) ∧ 1 ≤ k ∧ k ≤ 65535 ∧ (trim = 0 → k = kt)

/-- A two-row axle is weighed at the speed S × 16000 / Δ held within the site-wide limits, a one-row axle at its borrowed speed
(R84, R85); each row's load is the sum of its pulses' wheel loads, 0 for a LONG pulse (R88 to R91); the axle load is the mean of
two usable rows or the one that is usable (R92, R93); the left and the right wheel load are the means over the rows that hold
such a pulse (R95). The axle carries the candidate's flags and those of the speed, the rows, the strips, the temperatures and the
calibration store, bit by bit as R130 numbers them, and no other (R84, R93, R94, R96 to R99). A candidate that is handed over is
weighed in the state of its hand-over, and the VAU takes the weighed axle in that same state (R78, R83). -/
def Obligations.AxlesAreWeighedFromTheirRows : Prop :=
  ∀ (s : State) (c : Candidate),
    let e := (s.weigh c).entry
    let spacing := s.cst.working.lane[c.lane].spacing
    let hits := c.up.toList ++ c.down.toList
    let pulses := hits.flatMap fun h => h.left.toList ++ h.right.toList
    let keff (r : PulseRecord) : Int := min 65535
      ((s.cst.working.strip[r.strip].gainAt s.ptu.lane[laneOf r.strip].tl *
        (4096 + s.cst.working.lane[laneOf r.strip].trim) + 2048) / 4096)
    let wheel (r : PulseRecord) : Nat :=
      if r.long then 0 else min ((r.area * e.speed * (keff r).toNat + 2147483648) / 4294967296) 65535
    let row (h : Option RowHit) : Nat :=
      ((h.toList.flatMap fun h => h.left.toList ++ h.right.toList).map wheel).sum
    let side (pick : RowHit → Option PulseRecord) : Nat :=
      match (hits.filterMap pick).map wheel with
      | [] => 0
      | [a] => a
      | a :: b :: _ => (a + b + 1) / 2
    let usable (h : Option RowHit) : Prop := ∃ x, h = some x ∧ x.kind ≠ .half ∧ ∀ r ∈ x.left.toList ++ x.right.toList,
      s.shu[r.strip].state ≠ .outOfService ∧ s.shu[r.strip].state ≠ .disabled
    let adds (k : Nat) : Prop :=
      match k with
      | 6 => (usable c.up ∧ ¬ usable c.down) ∨ (¬ usable c.up ∧ usable c.down)
      | 7 => ¬ usable c.up ∧ ¬ usable c.down
      | 8 => ∃ d, c.delta = some d ∧ (spacing * 16000 / d < 556 ∨ 69444 < spacing * 16000 / d)
      | 9 => usable c.up ∧ usable c.down ∧
        s.par.lane[c.lane].rdt * (e.uLoad + e.dLoad) < 2000 * (max e.uLoad e.dLoad - min e.uLoad e.dLoad)
      | 10 => ∃ r ∈ pulses, s.ptu.lane[laneOf r.strip].validity = .invalid
      | 11 => s.cst.invalid = true
      | 12 => s.cst.closed = true
      | 13 => s.cst.unstored = true
      | 14 => ∃ r ∈ pulses, s.ptu.lane[laneOf r.strip].validity = .held
      | 15 => ∃ r ∈ pulses, s.shu[r.strip].state = .suspect ∨ s.shu[r.strip].state = .recovering
      | _ => False
    e.time = c.ref ∧ (s.weigh c).lane = c.lane ∧ (s.weigh c).straddle = c.straddle ∧
    (∀ d, c.delta = some d → e.speed = max 556 (min (spacing * 16000 / d) 69444)) ∧
    (∀ v, c.borrowed = some v → c.delta = none → e.speed = v) ∧
    e.uLoad = row c.up ∧ e.dLoad = row c.down ∧
    (usable c.up → usable c.down → e.load = (e.uLoad + e.dLoad + 1) / 2) ∧
    (usable c.up → ¬ usable c.down → e.load = e.uLoad) ∧
    (¬ usable c.up → usable c.down → e.load = e.dLoad) ∧
    (¬ usable c.up → ¬ usable c.down → c.up.isSome = true → c.down.isSome = true → e.load = (e.uLoad + e.dLoad + 1) / 2) ∧
    (¬ usable c.up → c.down = none → e.load = e.uLoad) ∧ (c.up = none → ¬ usable c.down → e.load = e.dLoad) ∧
    e.left = side (fun h => h.left) ∧ e.right = side (fun h => h.right) ∧
    (∀ k, e.flags.getLsbD k = true ↔ c.flags.getLsbD k = true ∨ adds k) ∧
    s.handOver c = s.axleArrival (s.weigh c)

/-- An axle that finds its context EMPTY opens a vehicle: in a FREE entry with a number that no live record carries (R104, R109,
R112 to R114), else in the entry of the first unheld COMPLETE record, which is evicted (R109, R110), else unrecorded (R111). An
axle within MAXSP and SPDTOL of the vehicle in progress joins it (R105, R114, R115), any other closes it and opens (R106). When
site time has already passed the close deadline that R107 sets, the vehicle closes within the arrival (R108, R111, R116 to R118). -/
def Obligations.AxlesOpenJoinAndCloseVehicles : Prop :=
  ∀ (s : State) (a : WeighedAxle),
    let n := a.lane
    let e := a.entry
    let lane := s.par.lane[n]
    let deadline := e.time +
      BitVec.ofNat 32 (min ((lane.maxSp * 10 + s.cst.working.lane[n].spacing) * 16000 / e.speed + 801) lane.maxClose)
    let late := (s.siteTime - deadline).toNat
    let progress : Progress := { lastTime := e.time, vLast := e.speed, deadline := deadline }
    let context (t : State) (c : Context) : State :=
      { t with vau := { t.vau with lane := upd t.vau.lane n fun l => { l with ctx := c } } }
    let linked (t : State) (number : Nat) : State :=
      if 0 < late ∧ late < 2147483648 then afterClose t n number else context t (.linked number progress)
    let unlinked (t : State) : State :=
      context t (if 0 < late ∧ late < 2147483648 then .empty else .unrecorded progress)
    let gap (p : Progress) : Nat :=
      if (e.time - p.lastTime).toNat < 2147483648 then
        min (((e.time - p.lastTime).toNat * ((p.vLast + e.speed) / 2) + 80000) / 160000) 65535
      else 65535
    let joins (p : Progress) : Prop := gap p ≤ lane.maxSp ∧
      (max e.speed p.vLast - min e.speed p.vLast) * 100 ≤ lane.spdTol * p.vLast
    let holds (k : Nat) : Prop := ∀ r ∈ s.vrt.live, r.number = k → r.held = true
    (s.vau.lane[n].ctx = .empty → s.vrt.live.length < 40 → ∃ number, allocated s.vrt number ∧
      s.axleArrival a = linked { s with
        vrt := { s.vrt with
          live := s.vrt.live ++
            [{ number := number, lane := n, state := .opened, held := false, unread := true, tag := none
               straddle := a.straddle, count := 1, overflow := false, calChanged := false, axles := [e], spacings := []
               groups := [], gross := e.load, meanSpeed := 0, classCode := 0, generation := 0, firstTime := e.time
               lastTime := e.time, closeTime := none, laneTemp := s.ptu.lane[n].tl
               laneValidity := s.ptu.lane[n].validity, calCounter := s.cst.counter, reasons := 0, certified := false }]
          counter := if number < 65535 then number + 1 else 1 } } number) ∧
    (∀ (xs ys : List Nat) (r : Record), s.vau.lane[n].ctx = .empty → s.vrt.live.length = 40 → r ∈ s.vrt.live →
      (∀ q ∈ s.vrt.live, q.number = r.number → q = r) → s.vrt.completed = xs ++ r.number :: ys → (∀ k ∈ xs, holds k) →
      r.held = false → s.axleArrival a =
        ({ s with
          vrt := { s.vrt with
            live := s.vrt.live.filter fun q => q.number ≠ r.number
            completed := s.vrt.completed.filter fun k => k ≠ r.number }
          vau := { s.vau with
            lane := upd s.vau.lane r.lane fun l =>
              if r.unread then { l with evicted := min (l.evicted + 1) 65535 } else l } } : State).axleArrival a) ∧
    (s.vau.lane[n].ctx = .empty → 40 ≤ s.vrt.live.length → (∀ k ∈ s.vrt.completed, holds k) →
      s.axleArrival a = unlinked { s with
        vau := { s.vau with
          lane := upd s.vau.lane n fun l => { l with unrecorded := min (l.unrecorded + 1) 65535 } }
        cpt := { s.cpt with unrecordedLatch := true } }) ∧
    (∀ number p, s.vau.lane[n].ctx = .linked number p → joins p →
      s.axleArrival a = linked { s with
        vrt := { s.vrt with
          live := s.vrt.live.map fun r => if r.number = number then
            { r with
              count := min (r.count + 1) 31
              axles := if r.axles.length < 12 then r.axles ++ [e] else r.axles
              overflow := r.overflow || 12 ≤ r.axles.length
              spacings := if 1 ≤ r.axles.length ∧ r.axles.length < 12 then r.spacings ++ [gap p] else r.spacings
              gross := if r.axles.length < 12 then r.gross + e.load else r.gross
              lastTime := e.time
              calChanged := r.calChanged || s.cst.counter ≠ r.calCounter
              straddle := r.straddle <|> a.straddle } else r } } number) ∧
    (∀ number p, s.vau.lane[n].ctx = .linked number p → ¬ joins p →
      s.axleArrival a = (afterClose s n number).axleArrival a) ∧
    (∀ p, s.vau.lane[n].ctx = .unrecorded p → joins p → s.axleArrival a = unlinked s) ∧
    ∀ p, s.vau.lane[n].ctx = .unrecorded p → ¬ joins p → s.axleArrival a = (context s .empty).axleArrival a

/-- When site time has passed the close deadline, a LINKED vehicle's record closes with its groups, figures, class, reason set and
certification, joins the completion-order list and is counted; the context becomes EMPTY (R108, R116 to R118). An UNRECORDED
vehicle leaves nothing (R111). An expiry may be taken late (log 6). -/
def Obligations.CloseDeadlineClosesTheVehicle : Prop :=
  ∀ (s : State) (n : Lane) (p : Progress),
    let late := (s.siteTime - p.deadline).toNat
    0 < late → late < 2147483648 →
    (∀ number, s.vau.lane[n].ctx = .linked number p →
      exec (.closeDeadlineExpiry n) s = .next (afterClose s n number)) ∧
    (s.vau.lane[n].ctx = .unrecorded p → exec (.closeDeadlineExpiry n) s =
      .next { s with vau := { s.vau with lane := upd s.vau.lane n fun l => { l with ctx := .empty } } })

/-- The groups of a record cut its listed axles where a spacing is above GRP: their counts add up to the listed axles, their sums
to the gross weight, each starts where the one before it ends (R116). -/
def Obligations.GroupsPartitionTheAxles : Prop :=
  ∀ (s : State) (r : Record), 1 ≤ r.axles.length → r.spacings.length = r.axles.length - 1 →
    r.gross = (r.axles.map (·.load)).sum →
    let gs := closedGroups s r
    (gs.map (·.count)).sum = r.axles.length ∧ (gs.map (·.sum)).sum = r.gross ∧ (∀ g ∈ gs, 1 ≤ g.count) ∧
    (∀ k, (h : k < gs.length) →
      gs[k].first = ((gs.take k).map (·.count)).sum ∧
      gs[k].sum = (((r.axles.drop gs[k].first).take gs[k].count).map (·.load)).sum) ∧
    ∀ j, j < r.spacings.length → (s.par.grp < r.spacings.getD j 0 ↔ ∃ g ∈ gs, g.first = j + 1)

/-! ### The record table (chapter 7) -/

/-- REC_LIST lists the live records that match its masks, in opening order, and changes nothing (R132). REC_HEAD returns the
header of R130's layout and marks a COMPLETE record read (R125, R133). REC_AXLES returns the listed axles asked for and changes
nothing (R134). REC_HOLD holds a record while fewer than 38 are held (R135), REC_RELEASE frees it (R136), REC_TAG sets or clears
its tag (R137). A command that names no live record is refused NO_RECORD (R131). The record status byte gives lane, state,
held, unread, certified, tag and straddle in R130's bits. -/
def Obligations.RecordReadsAndMarks : Prop :=
  (∀ (s : State) (x : Xfer) (lanes states : Byte), s.taker x.addr = .addressed →
    let rs := s.vrt.live.filter fun r =>
      lanes.getLsbD r.lane.val && ((r.state = .opened && states.getLsbD 0) || (r.state = .complete && states.getLsbD 1))
    let answer (st : Status) (payload : List Byte) : Host.Outcome State Fault Refusal :=
      .next (s.answered s (xferBytes x [lanes, states]) 0x10 st payload)
    (lanes.toNat < 16 → states.toNat < 4 →
      exec (.recList x [lanes, states]) s = answer .ok (byte rs.length :: rs.flatMap fun r => bytes2 r.number ++ [r.statusByte])) ∧
    (16 ≤ lanes.toNat ∨ 4 ≤ states.toNat → exec (.recList x [lanes, states]) s = answer .badValue [])) ∧
  (∀ (s : State) (x : Xfer) (xs ys : List Record) (r : Record), s.taker x.addr = .addressed → s.vrt.live = xs ++ r :: ys →
    (∀ q ∈ xs ++ ys, q.number ≠ r.number) → r.number < 65536 →
    let n := bytes2 r.number
    let put (q : Record) : State := { s with vrt := { s.vrt with live := xs ++ q :: ys } }
    let others := (xs ++ ys).countP fun q => q.held
    let marked (q : Record) : List Byte := n ++ [q.statusByte, byte (others + if q.held then 1 else 0)]
    exec (.recHead x n) s = .next (s.answered (put (if r.state = .complete then { r with unread := false } else r))
      (xferBytes x n) 0x11 .ok r.headBytes) ∧
    (∀ first count : Nat, first < r.axles.length → first ≤ 11 → 1 ≤ count → count ≤ 8 →
      let p := n ++ [byte first, byte count]
      exec (.recAxles x p) s = .next (s.answered s (xferBytes x p) 0x12 .ok
        (n ++ [byte first, byte (min count (r.axles.length - first))] ++
          ((r.axles.drop first).take count).flatMap fun a => bytes4 a.time.toNat ++ bytes4 a.speed ++ bytes4 a.load ++
            bytes4 a.uLoad ++ bytes4 a.dLoad ++ bytes2 a.left ++ bytes2 a.right ++ bytes4 a.flags.toNat))) ∧
    (r.held = true ∨ others < 38 → exec (.recHold x n) s = .next
      (s.answered (put { r with held := true }) (xferBytes x n) 0x13 .ok (marked { r with held := true }))) ∧
    (r.held = false → 38 ≤ others → exec (.recHold x n) s = .next (s.answered s (xferBytes x n) 0x13 .holdLimit [])) ∧
    exec (.recRelease x n) s = .next
      (s.answered (put { r with held := false }) (xferBytes x n) 0x14 .ok (marked { r with held := false })) ∧
    ∀ v : BitVec 32,
      exec (.recTag x (n ++ 1 :: bytes4 v.toNat)) s = .next (s.answered (put { r with tag := some v })
        (xferBytes x (n ++ 1 :: bytes4 v.toNat)) 0x15 .ok (marked { r with tag := some v })) ∧
      exec (.recTag x (n ++ 0 :: bytes4 v.toNat)) s = .next (s.answered (put { r with tag := none })
        (xferBytes x (n ++ 0 :: bytes4 v.toNat)) 0x15 .ok (marked { r with tag := none }))) ∧
  (∀ (s : State) (x : Xfer) (n : Nat), s.taker x.addr = .addressed → n < 65536 → n ∉ s.vrt.live.map (·.number) →
    let missing (code : Byte) (p : List Byte) : Host.Outcome State Fault Refusal :=
      .next (s.answered s (xferBytes x p) code .noRecord [])
    let p := bytes2 n
    exec (.recHead x p) s = missing 0x11 p ∧ exec (.recAxles x (p ++ [0, 8])) s = missing 0x12 (p ++ [0, 8]) ∧
    exec (.recHold x p) s = missing 0x13 p ∧ exec (.recRelease x p) s = missing 0x14 p ∧
    exec (.recTag x (p ++ [0, 0, 0, 0, 0])) s = missing 0x15 (p ++ [0, 0, 0, 0, 0]) ∧
    exec (.recClose x p) s = missing 0x16 p ∧ exec (.recRetire x p) s = missing 0x17 p ∧
    exec (.recReclass x p) s = missing 0x1A p ∧ exec (.recSplit x (p ++ [1])) s = missing 0x19 (p ++ [1])) ∧
  (∀ r : Record,
    let b := r.statusByte
    b.toNat % 4 = r.lane.val ∧ (b.getLsbD 2 = true ↔ r.state = .complete) ∧ b.getLsbD 3 = r.held ∧ b.getLsbD 4 = r.unread ∧
    b.getLsbD 5 = r.certified ∧ b.getLsbD 6 = r.tag.isSome ∧ b.getLsbD 7 = r.straddle.isSome) ∧
  ∀ r : Record,
    let field (o n : Nat) : List Byte := (r.headBytes.drop o).take n
    let g := r.groups.length
    r.headBytes.length = 46 + 6 * g + 2 * r.spacings.length ∧
    field 0 2 = bytes2 r.number ∧ field 2 1 = [r.statusByte] ∧
    field 3 1 = [byte ((if r.overflow then 1 else 0) + (if r.calChanged then 2 else 0))] ∧
    field 4 1 = [byte (r.straddle.getD 0)] ∧ field 5 1 = [byte r.count] ∧ field 6 1 = [byte r.axles.length] ∧
    field 7 1 = [byte r.classCode] ∧ field 8 2 = bytes2 r.generation ∧ field 10 4 = bytes4 r.gross ∧
    field 14 4 = bytes4 r.meanSpeed ∧ field 18 4 = bytes4 r.firstTime.toNat ∧ field 22 4 = bytes4 r.lastTime.toNat ∧
    field 26 4 = bytes4 (r.closeTime.getD 0).toNat ∧ field 30 2 = signed2 r.laneTemp ∧
    field 32 1 = [match r.laneValidity with | .valid => 0 | .held => 1 | .invalid => 2] ∧
    field 33 4 = bytes4 r.calCounter ∧ field 37 4 = bytes4 r.reasons.toNat ∧ field 41 4 = bytes4 (r.tag.getD 0).toNat ∧
    field 45 1 = [byte g] ∧
    (∀ k, (h : k < g) → field (46 + 6 * k) 6 = byte r.groups[k].first :: byte r.groups[k].count :: bytes4 r.groups[k].sum) ∧
    ∀ k, (h : k < r.spacings.length) → field (46 + 6 * g + 2 * k) 2 = bytes2 r.spacings[k]

/-- REC_CLOSE closes an OPEN record as the VAU does, with the command's time (R119, R138); REC_RETIRE removes a COMPLETE record
from both lists (R139); REC_RECLASS gives a COMPLETE record the class and the generation of the active bank and nothing else
(R140). Each refuses a record in the other state WRONG_STATE, and another payload length BAD_VALUE (R131). -/
def Obligations.RecordsCloseRetireAndReclass : Prop :=
  ∀ (s : State) (x : Xfer) (xs ys : List Record) (r : Record), s.taker x.addr = .addressed → s.vrt.live = xs ++ r :: ys →
    (∀ q ∈ xs ++ ys, q.number ≠ r.number) → r.number < 65536 →
    let n := bytes2 r.number
    let answer (t : State) (code : Byte) (st : Status) (payload : List Byte) : Host.Outcome State Fault Refusal :=
      .next (s.answered t (xferBytes x n) code st payload)
    (r.state = .opened →
      exec (.recClose x n) s =
        answer (afterClose s r.lane r.number) 0x16 .ok (n ++ [(closed s r).statusByte, byte (closed s r).classCode]) ∧
      exec (.recRetire x n) s = answer s 0x17 .wrongState [] ∧ exec (.recReclass x n) s = answer s 0x1A .wrongState []) ∧
    (r.state = .complete →
      let code := s.cls.classify
        { count := r.count, gross := r.gross, straddle := r.straddle.isSome, spacings := r.spacings
          groups := r.groups.map (·.count) }
      exec (.recClose x n) s = answer s 0x16 .wrongState [] ∧
      exec (.recRetire x n) s = answer
        { s with vrt := { s.vrt with live := xs ++ ys, completed := s.vrt.completed.filter fun k => k ≠ r.number } } 0x17 .ok n ∧
      exec (.recReclass x n) s = answer
        { s with
          vrt := { s.vrt with live := xs ++ { r with classCode := code, generation := s.cls.generation } :: ys } } 0x1A .ok
        (n ++ [byte code] ++ bytes2 s.cls.generation)) ∧
    ∀ p : List Byte, p.length ≠ 2 →
      exec (.recClose x p) s = .next (s.answered s (xferBytes x p) 0x16 .badValue []) ∧
      exec (.recRetire x p) s = .next (s.answered s (xferBytes x p) 0x17 .badValue []) ∧
      exec (.recReclass x p) s = .next (s.answered s (xferBytes x p) 0x1A .badValue [])

/-- REC_MERGE joins the next COMPLETE record of the lane onto a COMPLETE record: axles, spacings with the joining spacing of R102,
figures, reason set, CAL_CHANGED, close time, held, tag and unread (R141, R143, R144); the second record leaves both lists and
the first takes its place in completion order (R144). The refusals come in the order of R142. -/
def Obligations.MergeJoinsNeighbours : Prop :=
  ∀ (s : State) (x : Xfer), s.taker x.addr = .addressed →
    (∀ a : Nat, a < 65536 →
      exec (.recMerge x (bytes2 a ++ bytes2 a)) s =
        .next (s.answered s (xferBytes x (bytes2 a ++ bytes2 a)) 0x18 .badValue [])) ∧
    (∀ a b : Nat, a < 65536 → b < 65536 → a ≠ b → a ∉ s.vrt.live.map (·.number) ∨ b ∉ s.vrt.live.map (·.number) →
      exec (.recMerge x (bytes2 a ++ bytes2 b)) s =
        .next (s.answered s (xferBytes x (bytes2 a ++ bytes2 b)) 0x18 .noRecord [])) ∧
    ∀ a b : Record, a ∈ s.vrt.live → b ∈ s.vrt.live → (s.vrt.live.map (·.number)).Nodup → a.number < 65536 →
      b.number < 65536 → a.number ≠ b.number →
      let p := bytes2 a.number ++ bytes2 b.number
      let refused (st : Status) : Host.Outcome State Fault Refusal := .next (s.answered s (xferBytes x p) 0x18 st [])
      (a.state = .opened ∨ b.state = .opened → exec (.recMerge x p) s = refused .wrongState) ∧
      (a.state = .complete → b.state = .complete →
        (a.lane ≠ b.lane ∨ (∃ xs ys zs, s.vrt.live = xs ++ b :: ys ++ a :: zs) ∨
          (∃ xs ys zs, s.vrt.live = xs ++ a :: ys ++ b :: zs ∧ ∃ q ∈ ys, q.lane = a.lane) →
          exec (.recMerge x p) s = refused .notAdjacent) ∧
        ∀ xs ys zs : List Record, s.vrt.live = xs ++ a :: ys ++ b :: zs → a.lane = b.lane → (∀ q ∈ ys, q.lane ≠ a.lane) →
          (a.overflow = true ∨ b.overflow = true ∨ 12 < a.axles.length + b.axles.length →
            exec (.recMerge x p) s = refused .tooManyAxles) ∧
          ∀ (e f : AxleEntry) (es fs : List AxleEntry), a.overflow = false → b.overflow = false →
            a.axles.length + b.axles.length ≤ 12 → a.axles = es ++ [e] → b.axles = f :: fs →
            let gap : Nat :=
              if (f.time - e.time).toNat < 2147483648 then
                min (((f.time - e.time).toNat * ((e.speed + f.speed) / 2) + 80000) / 160000) 65535
              else 65535
            let changed : Bool := a.calChanged || b.calChanged || a.calCounter ≠ b.calCounter
            let m : Record := { refigured s { a with
                axles := a.axles ++ b.axles, spacings := a.spacings ++ [gap] ++ b.spacings } with
              calChanged := changed
              closeTime := b.closeTime
              held := a.held || b.held
              tag := a.tag <|> b.tag
              unread := true
              reasons := a.reasons ||| b.reasons ||| (if changed then codeCalChanged else 0) ||| codeHostEdited
              certified := false }
            exec (.recMerge x p) s = .next (s.answered
              { s with
                vrt := { s.vrt with
                  live := xs ++ m :: ys ++ zs
                  completed := (s.vrt.completed.filter fun k => k ≠ a.number).map fun k =>
                    if k = b.number then a.number else k } }
              (xferBytes x p) 0x18 .ok (bytes2 a.number ++ [m.statusByte])))

/-- REC_SPLIT cuts a COMPLETE record before its axle k into two records, the new one with the number of R112's allocation,
directly behind it in both lists, not held, without tag; both recomputed, unread and uncertified (R112, R141, R146). The
refusals come in the order of R145. -/
def Obligations.SplitDividesARecord : Prop :=
  ∀ (s : State) (x : Xfer) (xs ys : List Record) (a : Record) (k : Nat), s.taker x.addr = .addressed →
    s.vrt.live = xs ++ a :: ys → (∀ q ∈ xs ++ ys, q.number ≠ a.number) → a.number < 65536 → k < 256 →
    let p := bytes2 a.number ++ [byte k]
    let refused (st : Status) : Host.Outcome State Fault Refusal := .next (s.answered s (xferBytes x p) 0x19 st [])
    (11 < k → exec (.recSplit x p) s = refused .badValue) ∧
    (∀ n : Nat, n < 65536 → n ∉ s.vrt.live.map (·.number) → k ≤ 11 →
      exec (.recSplit x (bytes2 n ++ [byte k])) s =
        .next (s.answered s (xferBytes x (bytes2 n ++ [byte k])) 0x19 .noRecord [])) ∧
    (k ≤ 11 → a.state = .opened → exec (.recSplit x p) s = refused .wrongState) ∧
    (k ≤ 11 → a.state = .complete → k = 0 ∨ a.axles.length ≤ k ∨ a.overflow = true →
      exec (.recSplit x p) s = refused .badValue) ∧
    (1 ≤ k → k ≤ 11 → k < a.axles.length → a.state = .complete → a.overflow = false → 40 ≤ s.vrt.live.length →
      exec (.recSplit x p) s = refused .tableFull) ∧
    (1 ≤ k → k ≤ 11 → k < a.axles.length → a.state = .complete → a.overflow = false → s.vrt.live.length < 40 →
      ∃ number, allocated s.vrt number ∧
        exec (.recSplit x p) s = .next (s.answered
          { s with
            vrt :=
              { live := xs ++ splitPart s a (a.axles.take k) (a.spacings.take (k - 1)) ::
                  splitPart s { a with number := number, held := false, tag := none } (a.axles.drop k) (a.spacings.drop k) :: ys
                completed := s.vrt.completed.flatMap fun m => if m = a.number then [m, number] else [m]
                counter := if number < 65535 then number + 1 else 1 } }
          (xferBytes x p) 0x19 .ok (bytes2 a.number ++ bytes2 number)))

/-! ### The class table (chapter 8) -/

/-- CLASS_WRITE puts the rule of its image into the shadow bank and refuses an image outside R152's ranges (R151); CLASS_CLEAR
empties the shadow bank (R150, R153); CLASS_READ returns a rule of either bank and changes nothing (R154); CLASS_SWAP exchanges
the banks and advances the generation, 65535 to 0 (R155). Another payload is refused BAD_VALUE. -/
def Obligations.ClassCommandsEditTheShadowBank : Prop :=
  ∀ (s : State) (x : Xfer), s.taker x.addr = .addressed →
    let shadow := if s.cls.active1 then s.cls.bank0 else s.cls.bank1
    let active := if s.cls.active1 then s.cls.bank1 else s.cls.bank0
    let g := bytes2 s.cls.generation
    (∀ (i : Fin 32) (r : ClassRule), r.legal →
      exec (.classWrite x (byte i.val :: r.image)) s = .next (s.answered (shadowReplaced s (shadow.set i r))
        (xferBytes x (byte i.val :: r.image)) 0x20 .ok (byte i.val :: g))) ∧
    (∀ p : List Byte,
      let w := u8 p 13
      let c := u8 p 14
      p.length < 15 ∨ p.length ≠ 15 + 4 * w + c ∨ 31 < u8 p 0 ∨ 15 < u8 p 1 ∨ u8 p 2 = 0 ∨ 63 < u8 p 2 ∨
        u8 p 3 = 0 ∨ 31 < u8 p 4 ∨ u8 p 4 < u8 p 3 ∨ (12 ≤ u8 p 1 ∧ u32 p 9 < u32 p 5) ∨ 11 < w ∨
        (∃ j < w, u16 p (17 + 4 * j) < u16 p (15 + 4 * j)) ∨ (∃ j < c, u8 p (15 + 4 * w + j) = 0) ∨
        12 < ((List.range c).map fun j => u8 p (15 + 4 * w + j)).sum →
      exec (.classWrite x p) s = .next (s.answered s (xferBytes x p) 0x20 .badValue [])) ∧
    exec (.classClear x []) s = .next (s.answered
      (shadowReplaced s (Vector.replicate 32
        { valid := false, code := 0, axMin := 1, axMax := 31, grossMin := none, grossMax := none, straddle := false
          windows := [], pattern := none }))
      (xferBytes x []) 0x21 .ok g) ∧
    (∀ i : Fin 32,
      exec (.classRead x [0, byte i.val]) s =
        .next (s.answered s (xferBytes x [0, byte i.val]) 0x22 .ok ([0, byte i.val] ++ g ++ active[i].image)) ∧
      exec (.classRead x [1, byte i.val]) s =
        .next (s.answered s (xferBytes x [1, byte i.val]) 0x22 .ok ([1, byte i.val] ++ g ++ shadow[i].image))) ∧
    (∀ p : List Byte, p ≠ [] →
      exec (.classClear x p) s = .next (s.answered s (xferBytes x p) 0x21 .badValue []) ∧
      exec (.classSwap x p) s = .next (s.answered s (xferBytes x p) 0x23 .badValue [])) ∧
    (∀ p : List Byte, p.length ≠ 2 ∨ 1 < u8 p 0 ∨ 31 < u8 p 1 →
      exec (.classRead x p) s = .next (s.answered s (xferBytes x p) 0x22 .badValue [])) ∧
    let next := if s.cls.generation % 65536 = 65535 then 0 else s.cls.generation % 65536 + 1
    exec (.classSwap x []) s = .next (s.answered
      { s with cls := { s.cls with active1 := !s.cls.active1, generation := next } } (xferBytes x []) 0x23 .ok (bytes2 next))

/-- A rule matches when it is valid and its axle count, gross weight, straddle, spacing and group conditions hold (R157). The
first matching rule of the active bank gives its code, and 0 stands when none matches (R159). -/
def Obligations.FirstMatchingRuleGivesTheClass : Prop :=
  ∀ (c : Cls) (q : ClassQuery),
    let bank := if c.active1 then c.bank1 else c.bank0
    let fits (r : ClassRule) : Prop :=
      r.valid = true ∧ (r.axMin ≤ q.count ∧ q.count ≤ r.axMax) ∧
      ((∀ g, r.grossMin = some g → g ≤ q.gross) ∧ ∀ g, r.grossMax = some g → q.gross ≤ g) ∧
      (q.straddle = true → r.straddle = true) ∧
      (r.windows.length ≤ q.spacings.length ∧
        ∀ j, (h : j < r.windows.length) → r.windows[j].1 ≤ q.spacings.getD j 0 ∧ q.spacings.getD j 0 ≤ r.windows[j].2) ∧
      ∀ sizes, r.pattern = some sizes → sizes = q.groups
    (∀ k : Fin 32, fits bank[k] → (∀ j : Fin 32, j < k → ¬ fits bank[j]) → c.classify q = bank[k].code) ∧
    ((∀ k : Fin 32, ¬ fits bank[k]) → c.classify q = 0)

/-! ### The host's strip commands (chapter 9) -/

/-- STRIP_REMOVE takes a strip out without a holdoff timer (R170, R173); STRIP_RESTORE takes it to RECOVERING and asks for a
RECOVER test, once its holdoff timer has stopped (R174); STRIP_TEST asks for a HOST test (R175); STRIP_STATUS reports the strip in
R178's layout and clears its two marks and its NOISY latched view (R15, R177, R178). A record of the strip in transit goes with
the purge (R67, log 5). -/
def Obligations.StripCommandsActOnTheStrip : Prop :=
  ∀ (s : State) (x : Xfer) (i : Strip), s.taker x.addr = .addressed →
    let h := s.shu[i]
    let u := s.scu[i]
    let n := [byte i.val]
    let answer (t : State) (code : Byte) (payload : List Byte) : Host.Outcome State Fault Refusal :=
      .next (s.answered t (xferBytes x n) code .ok payload)
    let refused (code : Byte) (st : Status) : Host.Outcome State Fault Refusal :=
      .next (s.answered s (xferBytes x n) code st [])
    (h.state = .disabled → exec (.stripRemove x n) s = refused 0x28 .wrongState) ∧
    (h.state = .outOfService → exec (.stripRemove x n) s = answer s 0x28 (n ++ [2])) ∧
    (h.state = .inService ∨ h.state = .suspect ∨ h.state = .recovering → exec (.stripRemove x n) s = answer
      { s with
        shu := upd s.shu i fun h =>
          { h with
            state := .outOfService
            failCount := 0
            changed := true
            leftService := h.leftService || h.state = .inService }
        scu := upd s.scu i fun u => { u with pulse := u.pulse.map fun p => { p with discard := true } }
        apu := { s.apu with
          side := upd s.apu.side i fun _ => []
          transit := s.apu.transit.filter fun r => r.strip ≠ i } } 0x28 (n ++ [2])) ∧
    (h.state ≠ .outOfService → exec (.stripRestore x n) s = refused 0x29 .wrongState) ∧
    (h.state = .outOfService → h.holdoffDue.isSome = true → exec (.stripRestore x n) s = refused 0x29 .holdoff) ∧
    (h.state = .outOfService → h.holdoffDue = none → exec (.stripRestore x n) s = answer
      { s with
        shu := upd s.shu i fun h => { h with state := .recovering, changed := true }
        mcs := s.mcs.request i .recover } 0x29 (n ++ [3])) ∧
    (h.state = .inService → exec (.stripTest x n) s = answer { s with mcs := s.mcs.request i .host } 0x2A (n ++ [0])) ∧
    (h.state = .suspect → exec (.stripTest x n) s = answer { s with mcs := s.mcs.request i .host } 0x2A (n ++ [1])) ∧
    (h.state ≠ .inService → h.state ≠ .suspect → exec (.stripTest x n) s = refused 0x2A .wrongState) ∧
    exec (.stripStatus x n) s = answer
      { s with
        shu := upd s.shu i fun h => { h with leftService := false, changed := false }
        scu := upd s.scu i fun u => { u with noisyLatched := false } } 0x2B (stripStatusBytes s i) ∧
    (let left : Nat :=
      match h.holdoffDue with
      | some t => if (s.siteTime - t).toNat < 2147483648 then 0 else (t - s.siteTime).toNat
      | none => 0
    let one (b : Bool) (w : Nat) : Nat := if b then w else 0
    ∃ test aborts : Byte, stripStatusBytes s i =
        n ++ [match h.state with | .inService => 0 | .suspect => 1 | .outOfService => 2 | .recovering => 3 | .disabled => 4,
          byte (one h.causes.miss 1 + one h.causes.noise 2 + one h.causes.drift 4 + one h.causes.standing 8 +
            one h.causes.testFail 16),
          byte (one h.leftService 1 + one h.changed 2 + one u.noisyLive 4 + one u.noisyLatched 8 +
            one u.standing.isSome 16 + one u.pinned 32), byte h.missCount, byte h.failCount] ++
        bytes2 ((left + 15999) / 16000) ++ signed2 u.base ++
        [match u.conn with | .connected => 0 | .underTest => 1 | .settling _ => 2, test, aborts] ++
        bytes2 (s.mcs.strip[i].lastCode.getD 0) ∧
      test.getLsbD 5 = s.mcs.strip[i].lastCode.isSome ∧ test.getLsbD 6 = false ∧ test.getLsbD 7 = false ∧
      (∀ f, s.mcs.flight = some f → f.entry.strip = i →
        test.getLsbD 0 = false ∧ test.toNat / 2 % 4 = f.entry.origin.rank ∧ test.getLsbD 3 = true ∧
        (test.getLsbD 4 = true ↔ f.phase = .read) ∧ aborts = byte f.entry.aborts) ∧
      ((∀ f, s.mcs.flight = some f → f.entry.strip ≠ i) → test.getLsbD 3 = false ∧ test.getLsbD 4 = false ∧
        (test.getLsbD 0 = true ↔ ∃ e ∈ s.mcs.queue, e.strip = i) ∧
        ((∀ e ∈ s.mcs.queue, e.strip ≠ i) → test.toNat / 2 % 4 = 0 ∧ aborts = 0) ∧
        ∀ e ∈ s.mcs.queue, e.strip = i → (∀ q ∈ s.mcs.queue, q.strip = i → q = e) →
          test.toNat / 2 % 4 = e.origin.rank ∧ aborts = byte e.aborts)) ∧
    ∀ p : List Byte, p.length ≠ 1 ∨ 15 < u8 p 0 →
      let bad (code : Byte) : Host.Outcome State Fault Refusal := .next (s.answered s (xferBytes x p) code .badValue [])
      exec (.stripRemove x p) s = bad 0x28 ∧ exec (.stripRestore x p) s = bad 0x29 ∧ exec (.stripTest x p) s = bad 0x2A ∧
      exec (.stripStatus x p) s = bad 0x2B

/-! ### The calibration store (chapter 10) -/

/-- With the switch closed and no store in flight, CAL_WRITE replaces one item of the staging copy (R187) and CAL_LOAD copies the
working copy into it (R188); CAL_READ returns an item of either copy and changes nothing (R189). With the switch open each of the
five commands that change calibration is refused CAL_LOCKED, and during a store BUSY (R186). The 336 value bytes of a copy stand in
the order of section 10.2, K0 to K8 and Z of strip n from offset 20n, S and trim of lane m from 320 + 4m (R182); their CRC-16
starts at FFFFh and takes a byte into its upper half by exclusive-or and eight shifts with 1021h (R183). -/
def Obligations.CalibrationIsEditedInStaging : Prop :=
  (∀ (s : State) (x : Xfer), s.taker x.addr = .addressed → s.cst.closed = true → s.cst.store = none →
    let staged (c : CalSet) : State := { s with cst := { s.cst with staging := c } }
    let put (b : Byte) (p : List Byte) (c : CalSet) : Host.Outcome State Fault Refusal :=
      .next (s.answered (staged c) (xferBytes x (b :: p)) 0x30 .ok (b :: bytes2 c.crc.toNat))
    (∀ (i : Strip) (v : StripCal), (∀ j : Fin 9, v.k[j] < 65536) → -32768 ≤ v.z → v.z ≤ 32767 →
      exec (.calWrite x (byte i.val :: v.bytes)) s =
        put (byte i.val) v.bytes { s.cst.staging with strip := s.cst.staging.strip.set i v }) ∧
    (∀ (m : Lane) (v : LaneCal), v.spacing < 65536 → -512 ≤ v.trim → v.trim ≤ 511 →
      exec (.calWrite x (byte (16 + m.val) :: v.bytes)) s =
        put (byte (16 + m.val)) v.bytes { s.cst.staging with lane := s.cst.staging.lane.set m v }) ∧
    (∀ p : List Byte, p = [] ∨ 19 < u8 p 0 ∨ (u8 p 0 < 16 ∧ p.length ≠ 21) ∨ (16 ≤ u8 p 0 ∧ p.length ≠ 5) ∨
        (16 ≤ u8 p 0 ∧ (s16 p 3 < -512 ∨ 511 < s16 p 3)) →
      exec (.calWrite x p) s = .next (s.answered s (xferBytes x p) 0x30 .badValue [])) ∧
    exec (.calLoad x []) s = .next (s.answered (staged s.cst.working) (xferBytes x []) 0x31 .ok
      (bytes2 (crc16 s.cst.working.bytes).toNat))) ∧
  (∀ (s : State) (x : Xfer) (sel : Byte), s.taker x.addr = .addressed → sel.toNat < 2 →
    let c := if sel = 0 then s.cst.working else s.cst.staging
    let top (t : Byte) : List Byte := [sel, t] ++ bytes4 s.cst.counter ++
      [byte ((if s.cst.invalid then 1 else 0) + (if s.cst.store.isSome then 2 else 0) + (if s.cst.unstored then 4 else 0) +
        (if s.cst.closed then 8 else 0))]
    let answer (t : Byte) (item : List Byte) : Host.Outcome State Fault Refusal :=
      .next (s.answered s (xferBytes x [sel, t]) 0x32 .ok (top t ++ item))
    (∀ i : Strip, exec (.calRead x [sel, byte i.val]) s =
      answer (byte i.val) ((List.range 9).flatMap (fun j => bytes2 (c.strip[i].k.toList.getD j 0)) ++ signed2 c.strip[i].z)) ∧
    (∀ m : Lane, exec (.calRead x [sel, byte (16 + m.val)]) s =
      answer (byte (16 + m.val)) (bytes2 c.lane[m].spacing ++ signed2 c.lane[m].trim)) ∧
    exec (.calRead x [sel, 20]) s = answer 20 (bytes2 (crc16 c.bytes).toNat)) ∧
  (∀ c : CalSet,
    let field (o : Nat) : List Byte := (c.bytes.drop o).take 2
    c.bytes.length = 336 ∧
    (∀ i : Strip, (∀ j : Fin 9, field (20 * i.val + 2 * j.val) = bytes2 c.strip[i].k[j]) ∧
      field (20 * i.val + 18) = signed2 c.strip[i].z) ∧
    ∀ m : Lane, field (320 + 4 * m.val) = bytes2 c.lane[m].spacing ∧ field (320 + 4 * m.val + 2) = signed2 c.lane[m].trim) ∧
  (crc16 [] = 0xFFFF ∧ ∀ (bytes : List Byte) (b : Byte),
    let shift (c : BitVec 16) : BitVec 16 := if c.getLsbD 15 then (c <<< 1) ^^^ 0x1021 else c <<< 1
    crc16 (bytes ++ [b]) =
      shift (shift (shift (shift (shift (shift (shift (shift (crc16 bytes ^^^ (b.setWidth 16 <<< 8)))))))))) ∧
  ∀ (s : State) (x : Xfer) (p : List Byte) (st : Status), s.taker x.addr = .addressed →
    ((s.cst.closed = false ∧ st = .calLocked) ∨ (s.cst.closed = true ∧ s.cst.store.isSome = true ∧ st = .busy)) →
    let refused (code : Byte) : Host.Outcome State Fault Refusal := .next (s.answered s (xferBytes x p) code st [])
    exec (.calWrite x p) s = refused 0x30 ∧ exec (.calLoad x p) s = refused 0x31 ∧ exec (.calCommit x p) s = refused 0x33 ∧
    exec (.trimSet x p) s = refused 0x34 ∧ exec (.trimStep x p) s = refused 0x35

/-- TRIM_SET clamps one lane's trim into −512 to +511 in both copies (R194); TRIM_STEP adds its step to the lanes of its mask and
saturates (R195); both set the unstored-trim mark, TRIM_STEP when its mask names a lane (R196). A broadcast TRIM_STEP acts alike
without a response, and is ignored where it would be refused: for its payload, with the switch open, and with a store in flight
(R191, R195, R203). -/
def Obligations.TrimsMoveInBothCopies : Prop :=
  (∀ (s : State) (x : Xfer), s.cst.closed = true → s.cst.store = none →
    let lanes (c : CalSet) (f : Lane → Int → Int) : CalSet :=
      { c with lane := Vector.ofFn fun m => { c.lane[m] with trim := f m c.lane[m].trim } }
    let trimmed (f : Lane → Int → Int) (mark : Bool) : State :=
      { s with
        cst := { s.cst with
          working := lanes s.cst.working f, staging := lanes s.cst.staging f, unstored := s.cst.unstored || mark } }
    let held (t : Int) : Int := max (-512) (min t 511)
    let stepped (mask : Byte) (d : Int) : Lane → Int → Int := fun m t => if mask.getLsbD m.val then held (t + d) else t
    let steps : List (Byte × Int) := [(0, 1), (1, 8), (2, 40), (3, -1), (4, -8), (5, -40)]
    (s.taker x.addr = .addressed →
      (∀ (m : Lane) (v : Int), -32768 ≤ v → v ≤ 32767 →
        exec (.trimSet x (byte m.val :: signed2 v)) s = .next (s.answered
          (trimmed (fun k t => if k = m then held v else t) true) (xferBytes x (byte m.val :: signed2 v)) 0x34 .ok
          (byte m.val :: signed2 (held v)))) ∧
      (∀ (mask code : Byte) (d : Int), (code, d) ∈ steps → mask.toNat < 16 →
        let t := trimmed (stepped mask d) (mask ≠ 0)
        exec (.trimStep x [mask, code]) s = .next (s.answered t (xferBytes x [mask, code]) 0x35 .ok
          (signed2 t.cst.working.lane[0].trim ++ signed2 t.cst.working.lane[1].trim ++
            signed2 t.cst.working.lane[2].trim ++ signed2 t.cst.working.lane[3].trim))) ∧
      ∀ p : List Byte,
        (p.length ≠ 3 ∨ 3 < u8 p 0 → exec (.trimSet x p) s = .next (s.answered s (xferBytes x p) 0x34 .badValue [])) ∧
        (p.length ≠ 2 ∨ 16 ≤ u8 p 0 ∨ 5 < u8 p 1 →
          exec (.trimStep x p) s = .next (s.answered s (xferBytes x p) 0x35 .badValue []))) ∧
    (s.taker x.addr = .broadcast →
      (∀ (mask code : Byte) (d : Int), (code, d) ∈ steps → mask.toNat < 16 →
        exec (.trimStep x [mask, code]) s =
          .next { trimmed (stepped mask d) (mask ≠ 0) with cpt := { s.cpt with miso := [] } }) ∧
      ∀ p : List Byte, p.length ≠ 2 ∨ 16 ≤ u8 p 0 ∨ 5 < u8 p 1 →
        exec (.trimStep x p) s = .next { s with cpt := { s.cpt with miso := [] } })) ∧
  ∀ (s : State) (x : Xfer) (p : List Byte), s.taker x.addr = .broadcast →
    s.cst.closed = false ∨ s.cst.store.isSome = true →
    exec (.trimStep x p) s = .next { s with cpt := { s.cpt with miso := [] } }

/-- CAL_COMMIT starts a store when the staging values and the host's CRC are right (R190). A completion from 480 to 1,440 tu after
that is a success when the bytes read back give the staging CRC: the spare slot becomes the current one, the counter rises by one,
the staging copy comes into force, and a strip whose Z changed meets a window change, by whose withdrawal of DRIFT alone service
states and test requests may follow (R2, R5, R164, R168, R184, R190, R192). Otherwise the failure mark and the status INVALID are
set and everything else is kept (R193). The bytes read back are an operand (log 7). -/
def Obligations.CommitStoresTheStagingCopy : Prop :=
  (∀ (s : State) (x : Xfer) (crc : BitVec 16), s.taker x.addr = .addressed → s.cst.closed = true → s.cst.store = none →
    let c := s.cst.staging
    let answer (t : State) (st : Status) (payload : List Byte) : Host.Outcome State Fault Refusal :=
      .next (s.answered t (xferBytes x (bytes2 crc.toNat)) 0x33 st payload)
    let storable : Prop := (∀ (i : Strip) (j : Fin 9), c.strip[i].k[j] ≠ 0) ∧
      (∀ m : Lane, 500 ≤ c.lane[m].spacing ∧ c.lane[m].spacing ≤ 5000) ∧ s.cst.counter ≠ 4294967295
    (¬ storable → exec (.calCommit x (bytes2 crc.toNat)) s = answer s .badValue []) ∧
    (storable → crc ≠ crc16 c.bytes → exec (.calCommit x (bytes2 crc.toNat)) s = answer s .crcMismatch []) ∧
    (storable → crc = crc16 c.bytes → exec (.calCommit x (bytes2 crc.toNat)) s = answer
      { s with cst := { s.cst with store := some s.siteTime } } .ok (bytes4 s.cst.counter ++ bytes2 crc.toNat))) ∧
  ∀ (s : State) (start : Time) (bytes : List Byte), s.cst.store = some start → 480 ≤ (s.siteTime - start).toNat →
    (s.siteTime - start).toNat ≤ 1440 →
    let nv := s.cst.nv
    let image := bytes ++ bytes2 (crc16 s.cst.staging.bytes).toNat
    let spare : Nonvolatile :=
      { nv with
        slot0 := if nv.current1 then image else nv.slot0
        slot1 := if nv.current1 then nv.slot1 else image }
    let moved (i : Strip) : Bool := s.cst.staging.strip[i].z != s.cst.working.strip[i].z
    (crc16 bytes = crc16 s.cst.staging.bytes → exec (.storeCompletion bytes) s = .next
      ((allStrips.filter moved).foldl (fun t i => t.evidence i fun c => { c with drift := false })
        { s with
          cst := { s.cst with
            nv := { spare with current1 := !nv.current1, counter := nv.counter + 1, failMark := false }
            counter := nv.counter + 1
            working := s.cst.staging
            store := none
            invalid := false
            unstored := false }
          cpt := { s.cpt with calEvent := true }
          scu := Vector.ofFn fun i : Strip =>
            if moved i then
              { s.scu[i] with
                base := max (max (s.cst.staging.strip[i].z - s.par.azl) (-32768))
                  (min s.scu[i].base (min (s.cst.staging.strip[i].z + s.par.azl) 32767))
                pinned := false
                pinDue := none }
            else s.scu[i] })) ∧
    (crc16 bytes ≠ crc16 s.cst.staging.bytes → exec (.storeCompletion bytes) s = .next
      { s with
        cst := { s.cst with
          nv := { spare with failMark := true }, counter := nv.counter, store := none, invalid := true }
        cpt := { s.cpt with calEvent := true } })

/-- The start-up load takes the current slot's image, clamps its values when its CRC is bad, and sets status, staging copy, mark
and switch position (R185, R197); the baselines start at Z with the auto-zero and noise timers (R21), the periodic test timers
start and the first slot begins (R58), here one that converts a probe. A new level of CALSW is taken after 800 tu; a change back
cancels it (R185). The load and the switch may be taken late (log 6, log 12). -/
def Obligations.LoadAndSwitchAreTaken : Prop :=
  (∀ s : State, s.loaded = false → s.mcs.flight = none → s.mcs.frame[s.mcs.pos].rule = .probe →
    20 ≤ s.mcs.frame[s.mcs.pos].len → (∀ p : Probe, s.ptu.probe[p].state ≠ .disabled) →
    let nv := s.cst.nv
    let image := if nv.current1 then nv.slot1 else nv.slot0
    let good : Bool := crc16 (image.take 336) = BitVec.ofNat 16 (u16 image 336)
    336 ≤ image.length → ∃ c : CalSet, exec .loadCompletion s = .next
      { s with
        loaded := true
        cst :=
          { nv := nv, counter := nv.counter, working := c, staging := c, store := none, invalid := !good || nv.failMark
            unstored := false, closed := s.cst.calsw, calsw := s.cst.calsw, calswDue := none }
        scu := Vector.ofFn fun i =>
          { s.scu[i] with
            base := c.strip[i].z
            azDue := some (s.siteTime + BitVec.ofNat 32 (s.par.azStep * 160))
            noiseDue := some (s.siteTime + 16000) }
        mcs := { s.mcs with
          strip := mapAll s.mcs.strip fun t =>
            { t with
              periodicDue :=
                if 0 < s.par.testPeriod then some (s.siteTime + BitVec.ofNat 32 (s.par.testPeriod * 960000)) else none }
          slotDue := some (s.siteTime + BitVec.ofNat 32 (s.mcs.frame[s.mcs.pos].len * 16))
          work := .probe s.mcs.pointer
          pointer := s.mcs.pointer + 1 } } ∧
      (∀ (i : Strip) (j : Fin 9), c.strip[i].k[j] =
        if good then u16 image (20 * i.val + 2 * j.val) else max (u16 image (20 * i.val + 2 * j.val)) 1) ∧
      (∀ i : Strip, c.strip[i].z = s16 image (20 * i.val + 18)) ∧
      (∀ m : Lane, c.lane[m].spacing =
        if good then u16 image (320 + 4 * m.val) else max 500 (min (u16 image (320 + 4 * m.val)) 5000)) ∧
      ∀ m : Lane, c.lane[m].trim =
        if good then s16 image (322 + 4 * m.val) else max (-512) (min (s16 image (322 + 4 * m.val)) 511)) ∧
  ∀ s : State,
    let input (closed : Bool) (wait : Option Time) : State :=
      { s with cst := { s.cst with calsw := closed, calswDue := wait } }
    (s.loaded = true → s.cst.calsw ≠ !s.cst.closed →
      exec (.calswInputChange (!s.cst.closed)) s = .next (input (!s.cst.closed) (some (s.siteTime + 800)))) ∧
    (s.cst.calsw ≠ s.cst.closed → exec (.calswInputChange s.cst.closed) s = .next (input s.cst.closed none)) ∧
    (due s.cst.calswDue s.siteTime →
      exec .switchPositionTaken s = .next { s with cst := { s.cst with closed := s.cst.calsw, calswDue := none } })

/-! ### What every step keeps -/

/-- Every step keeps every parameter in its range, and keeps a slot in the pending frame and in the frame in force (R6, R42, R43,
R207). -/
def Obligations.StepsKeepParametersInRange : Prop :=
  ∀ s t : State, ParametersInRange s → step s = .next t → ParametersInRange t

/-- Every step keeps every baseline inside its strip's window (R2). -/
def Obligations.StepsKeepBaselinesInWindow : Prop :=
  ∀ s t : State, BaselinesInWindow s → step s = .next t → BaselinesInWindow t

/-- Every step keeps the record table, its two lists, the record numbers and the lane contexts fitting together (R103, R112, R114,
R123, R124, R127, R128). -/
def Obligations.StepsKeepRecordsSound : Prop :=
  ∀ s t : State, RecordsSound s → step s = .next t → RecordsSound t

/-- Every step keeps the test queue and the test in flight, the counts of the strips, the service states and the buffers within
what the rules allow (R3, R8, R11, R16, R18, R47, R53, R60, R72, R163). -/
def Obligations.StepsKeepStripsAndBuffersSound : Prop :=
  (∀ s t : State, StripsSound s → step s = .next t → StripsSound t) ∧
  ∀ s t : State, BuffersSound s → step s = .next t → BuffersSound t

/-- The part right after device reset meets all five conditions that steps keep. The calibration values before the load are the
model's (log 10). -/
def Obligations.ResetMeetsTheInvariants : Prop :=
  ParametersInRange State.reset ∧ BaselinesInWindow State.reset ∧ RecordsSound State.reset ∧ StripsSound State.reset ∧
  BuffersSound State.reset
end

