-- ==== Sys2Proof/Laws/State.lean ====
section
/-! SUPPORT. The elements of changed vectors, and what each updater of one block leaves of the other fields of `State`. -/

namespace Sys2Proof.Machine

/-! ### Vectors -/

@[simp] theorem upd_getElem {α : Type} {n : Nat} (v : Vector α n) (i : Fin n) (f : α → α) (k : Nat) (h : k < n) :
    (upd v i f)[k] = if i.val = k then f v[k] else v[k] := by
  by_cases e : i.val = k
  · subst e; simp [upd]
  · simp [upd, e]

theorem upd_get {α : Type} {n : Nat} (v : Vector α n) (i j : Fin n) (f : α → α) :
    (upd v i f)[j] = if i = j then f v[j] else v[j] := by
  simp [Fin.ext_iff]

@[simp] theorem mapAll_getElem {α β : Type} {n : Nat} (v : Vector α n) (f : α → β) (k : Nat) (h : k < n) :
    (mapAll v f)[k] = f v[k] := by
  simp [mapAll]

/-- A change that changes nothing leaves the vector. -/
theorem upd_eq_self {α : Type} {n : Nat} (v : Vector α n) (i : Fin n) (f : α → α) (h : f v[i] = v[i]) : upd v i f = v := by
  apply Vector.ext
  intro j hj
  by_cases e : i.val = j
  · subst e; simpa using h
  · simp [e]

/-! ### Updaters of one block -/

@[simp] theorem State.updScu_siteTime (s : State) (i : Strip) (f : Scu → Scu) : (s.updScu i f).siteTime = s.siteTime := rfl
@[simp] theorem State.updScu_loaded (s : State) (i : Strip) (f : Scu → Scu) : (s.updScu i f).loaded = s.loaded := rfl
@[simp] theorem State.updScu_par (s : State) (i : Strip) (f : Scu → Scu) : (s.updScu i f).par = s.par := rfl
@[simp] theorem State.updScu_scu (s : State) (i : Strip) (f : Scu → Scu) : (s.updScu i f).scu = upd s.scu i f := rfl
@[simp] theorem State.updScu_ptu (s : State) (i : Strip) (f : Scu → Scu) : (s.updScu i f).ptu = s.ptu := rfl
@[simp] theorem State.updScu_mcs (s : State) (i : Strip) (f : Scu → Scu) : (s.updScu i f).mcs = s.mcs := rfl
@[simp] theorem State.updScu_apu (s : State) (i : Strip) (f : Scu → Scu) : (s.updScu i f).apu = s.apu := rfl
@[simp] theorem State.updScu_vau (s : State) (i : Strip) (f : Scu → Scu) : (s.updScu i f).vau = s.vau := rfl
@[simp] theorem State.updScu_vrt (s : State) (i : Strip) (f : Scu → Scu) : (s.updScu i f).vrt = s.vrt := rfl
@[simp] theorem State.updScu_cls (s : State) (i : Strip) (f : Scu → Scu) : (s.updScu i f).cls = s.cls := rfl
@[simp] theorem State.updScu_shu (s : State) (i : Strip) (f : Scu → Scu) : (s.updScu i f).shu = s.shu := rfl
@[simp] theorem State.updScu_cst (s : State) (i : Strip) (f : Scu → Scu) : (s.updScu i f).cst = s.cst := rfl
@[simp] theorem State.updScu_cpt (s : State) (i : Strip) (f : Scu → Scu) : (s.updScu i f).cpt = s.cpt := rfl
@[simp] theorem State.updScu_pending (s : State) (i : Strip) (f : Scu → Scu) : (s.updScu i f).pending = s.pending := rfl

@[simp] theorem State.updShu_siteTime (s : State) (i : Strip) (f : Health → Health) : (s.updShu i f).siteTime = s.siteTime := rfl
@[simp] theorem State.updShu_loaded (s : State) (i : Strip) (f : Health → Health) : (s.updShu i f).loaded = s.loaded := rfl
@[simp] theorem State.updShu_par (s : State) (i : Strip) (f : Health → Health) : (s.updShu i f).par = s.par := rfl
@[simp] theorem State.updShu_scu (s : State) (i : Strip) (f : Health → Health) : (s.updShu i f).scu = s.scu := rfl
@[simp] theorem State.updShu_ptu (s : State) (i : Strip) (f : Health → Health) : (s.updShu i f).ptu = s.ptu := rfl
@[simp] theorem State.updShu_mcs (s : State) (i : Strip) (f : Health → Health) : (s.updShu i f).mcs = s.mcs := rfl
@[simp] theorem State.updShu_apu (s : State) (i : Strip) (f : Health → Health) : (s.updShu i f).apu = s.apu := rfl
@[simp] theorem State.updShu_vau (s : State) (i : Strip) (f : Health → Health) : (s.updShu i f).vau = s.vau := rfl
@[simp] theorem State.updShu_vrt (s : State) (i : Strip) (f : Health → Health) : (s.updShu i f).vrt = s.vrt := rfl
@[simp] theorem State.updShu_cls (s : State) (i : Strip) (f : Health → Health) : (s.updShu i f).cls = s.cls := rfl
@[simp] theorem State.updShu_shu (s : State) (i : Strip) (f : Health → Health) : (s.updShu i f).shu = upd s.shu i f := rfl
@[simp] theorem State.updShu_cst (s : State) (i : Strip) (f : Health → Health) : (s.updShu i f).cst = s.cst := rfl
@[simp] theorem State.updShu_cpt (s : State) (i : Strip) (f : Health → Health) : (s.updShu i f).cpt = s.cpt := rfl
@[simp] theorem State.updShu_pending (s : State) (i : Strip) (f : Health → Health) : (s.updShu i f).pending = s.pending := rfl

@[simp] theorem State.updTests_siteTime (s : State) (i : Strip) (f : StripTests → StripTests) : (s.updTests i f).siteTime = s.siteTime := rfl
@[simp] theorem State.updTests_loaded (s : State) (i : Strip) (f : StripTests → StripTests) : (s.updTests i f).loaded = s.loaded := rfl
@[simp] theorem State.updTests_par (s : State) (i : Strip) (f : StripTests → StripTests) : (s.updTests i f).par = s.par := rfl
@[simp] theorem State.updTests_scu (s : State) (i : Strip) (f : StripTests → StripTests) : (s.updTests i f).scu = s.scu := rfl
@[simp] theorem State.updTests_ptu (s : State) (i : Strip) (f : StripTests → StripTests) : (s.updTests i f).ptu = s.ptu := rfl
@[simp] theorem State.updTests_mcs (s : State) (i : Strip) (f : StripTests → StripTests) : (s.updTests i f).mcs = { s.mcs with strip := upd s.mcs.strip i f } := rfl
@[simp] theorem State.updTests_apu (s : State) (i : Strip) (f : StripTests → StripTests) : (s.updTests i f).apu = s.apu := rfl
@[simp] theorem State.updTests_vau (s : State) (i : Strip) (f : StripTests → StripTests) : (s.updTests i f).vau = s.vau := rfl
@[simp] theorem State.updTests_vrt (s : State) (i : Strip) (f : StripTests → StripTests) : (s.updTests i f).vrt = s.vrt := rfl
@[simp] theorem State.updTests_cls (s : State) (i : Strip) (f : StripTests → StripTests) : (s.updTests i f).cls = s.cls := rfl
@[simp] theorem State.updTests_shu (s : State) (i : Strip) (f : StripTests → StripTests) : (s.updTests i f).shu = s.shu := rfl
@[simp] theorem State.updTests_cst (s : State) (i : Strip) (f : StripTests → StripTests) : (s.updTests i f).cst = s.cst := rfl
@[simp] theorem State.updTests_cpt (s : State) (i : Strip) (f : StripTests → StripTests) : (s.updTests i f).cpt = s.cpt := rfl
@[simp] theorem State.updTests_pending (s : State) (i : Strip) (f : StripTests → StripTests) : (s.updTests i f).pending = s.pending := rfl

@[simp] theorem State.updLane_siteTime (s : State) (n : Lane) (f : VauLane → VauLane) : (s.updLane n f).siteTime = s.siteTime := rfl
@[simp] theorem State.updLane_loaded (s : State) (n : Lane) (f : VauLane → VauLane) : (s.updLane n f).loaded = s.loaded := rfl
@[simp] theorem State.updLane_par (s : State) (n : Lane) (f : VauLane → VauLane) : (s.updLane n f).par = s.par := rfl
@[simp] theorem State.updLane_scu (s : State) (n : Lane) (f : VauLane → VauLane) : (s.updLane n f).scu = s.scu := rfl
@[simp] theorem State.updLane_ptu (s : State) (n : Lane) (f : VauLane → VauLane) : (s.updLane n f).ptu = s.ptu := rfl
@[simp] theorem State.updLane_mcs (s : State) (n : Lane) (f : VauLane → VauLane) : (s.updLane n f).mcs = s.mcs := rfl
@[simp] theorem State.updLane_apu (s : State) (n : Lane) (f : VauLane → VauLane) : (s.updLane n f).apu = s.apu := rfl
@[simp] theorem State.updLane_vau (s : State) (n : Lane) (f : VauLane → VauLane) : (s.updLane n f).vau = { s.vau with lane := upd s.vau.lane n f } := rfl
@[simp] theorem State.updLane_vrt (s : State) (n : Lane) (f : VauLane → VauLane) : (s.updLane n f).vrt = s.vrt := rfl
@[simp] theorem State.updLane_cls (s : State) (n : Lane) (f : VauLane → VauLane) : (s.updLane n f).cls = s.cls := rfl
@[simp] theorem State.updLane_shu (s : State) (n : Lane) (f : VauLane → VauLane) : (s.updLane n f).shu = s.shu := rfl
@[simp] theorem State.updLane_cst (s : State) (n : Lane) (f : VauLane → VauLane) : (s.updLane n f).cst = s.cst := rfl
@[simp] theorem State.updLane_cpt (s : State) (n : Lane) (f : VauLane → VauLane) : (s.updLane n f).cpt = s.cpt := rfl
@[simp] theorem State.updLane_pending (s : State) (n : Lane) (f : VauLane → VauLane) : (s.updLane n f).pending = s.pending := rfl

@[simp] theorem State.updVrt_siteTime (s : State) (f : Vrt → Vrt) : (s.updVrt f).siteTime = s.siteTime := rfl
@[simp] theorem State.updVrt_loaded (s : State) (f : Vrt → Vrt) : (s.updVrt f).loaded = s.loaded := rfl
@[simp] theorem State.updVrt_par (s : State) (f : Vrt → Vrt) : (s.updVrt f).par = s.par := rfl
@[simp] theorem State.updVrt_scu (s : State) (f : Vrt → Vrt) : (s.updVrt f).scu = s.scu := rfl
@[simp] theorem State.updVrt_ptu (s : State) (f : Vrt → Vrt) : (s.updVrt f).ptu = s.ptu := rfl
@[simp] theorem State.updVrt_mcs (s : State) (f : Vrt → Vrt) : (s.updVrt f).mcs = s.mcs := rfl
@[simp] theorem State.updVrt_apu (s : State) (f : Vrt → Vrt) : (s.updVrt f).apu = s.apu := rfl
@[simp] theorem State.updVrt_vau (s : State) (f : Vrt → Vrt) : (s.updVrt f).vau = s.vau := rfl
@[simp] theorem State.updVrt_vrt (s : State) (f : Vrt → Vrt) : (s.updVrt f).vrt = f s.vrt := rfl
@[simp] theorem State.updVrt_cls (s : State) (f : Vrt → Vrt) : (s.updVrt f).cls = s.cls := rfl
@[simp] theorem State.updVrt_shu (s : State) (f : Vrt → Vrt) : (s.updVrt f).shu = s.shu := rfl
@[simp] theorem State.updVrt_cst (s : State) (f : Vrt → Vrt) : (s.updVrt f).cst = s.cst := rfl
@[simp] theorem State.updVrt_cpt (s : State) (f : Vrt → Vrt) : (s.updVrt f).cpt = s.cpt := rfl
@[simp] theorem State.updVrt_pending (s : State) (f : Vrt → Vrt) : (s.updVrt f).pending = s.pending := rfl

@[simp] theorem State.updRecord_siteTime (s : State) (n : Nat) (f : Record → Record) : (s.updRecord n f).siteTime = s.siteTime := rfl
@[simp] theorem State.updRecord_loaded (s : State) (n : Nat) (f : Record → Record) : (s.updRecord n f).loaded = s.loaded := rfl
@[simp] theorem State.updRecord_par (s : State) (n : Nat) (f : Record → Record) : (s.updRecord n f).par = s.par := rfl
@[simp] theorem State.updRecord_scu (s : State) (n : Nat) (f : Record → Record) : (s.updRecord n f).scu = s.scu := rfl
@[simp] theorem State.updRecord_ptu (s : State) (n : Nat) (f : Record → Record) : (s.updRecord n f).ptu = s.ptu := rfl
@[simp] theorem State.updRecord_mcs (s : State) (n : Nat) (f : Record → Record) : (s.updRecord n f).mcs = s.mcs := rfl
@[simp] theorem State.updRecord_apu (s : State) (n : Nat) (f : Record → Record) : (s.updRecord n f).apu = s.apu := rfl
@[simp] theorem State.updRecord_vau (s : State) (n : Nat) (f : Record → Record) : (s.updRecord n f).vau = s.vau := rfl
@[simp] theorem State.updRecord_vrt (s : State) (n : Nat) (f : Record → Record) : (s.updRecord n f).vrt = s.vrt.update n f := rfl
@[simp] theorem State.updRecord_cls (s : State) (n : Nat) (f : Record → Record) : (s.updRecord n f).cls = s.cls := rfl
@[simp] theorem State.updRecord_shu (s : State) (n : Nat) (f : Record → Record) : (s.updRecord n f).shu = s.shu := rfl
@[simp] theorem State.updRecord_cst (s : State) (n : Nat) (f : Record → Record) : (s.updRecord n f).cst = s.cst := rfl
@[simp] theorem State.updRecord_cpt (s : State) (n : Nat) (f : Record → Record) : (s.updRecord n f).cpt = s.cpt := rfl
@[simp] theorem State.updRecord_pending (s : State) (n : Nat) (f : Record → Record) : (s.updRecord n f).pending = s.pending := rfl

@[simp] theorem State.withCls_siteTime (s : State) (c : Cls) : (s.withCls c).siteTime = s.siteTime := rfl
@[simp] theorem State.withCls_loaded (s : State) (c : Cls) : (s.withCls c).loaded = s.loaded := rfl
@[simp] theorem State.withCls_par (s : State) (c : Cls) : (s.withCls c).par = s.par := rfl
@[simp] theorem State.withCls_scu (s : State) (c : Cls) : (s.withCls c).scu = s.scu := rfl
@[simp] theorem State.withCls_ptu (s : State) (c : Cls) : (s.withCls c).ptu = s.ptu := rfl
@[simp] theorem State.withCls_mcs (s : State) (c : Cls) : (s.withCls c).mcs = s.mcs := rfl
@[simp] theorem State.withCls_apu (s : State) (c : Cls) : (s.withCls c).apu = s.apu := rfl
@[simp] theorem State.withCls_vau (s : State) (c : Cls) : (s.withCls c).vau = s.vau := rfl
@[simp] theorem State.withCls_vrt (s : State) (c : Cls) : (s.withCls c).vrt = s.vrt := rfl
@[simp] theorem State.withCls_cls (s : State) (c : Cls) : (s.withCls c).cls = c := rfl
@[simp] theorem State.withCls_shu (s : State) (c : Cls) : (s.withCls c).shu = s.shu := rfl
@[simp] theorem State.withCls_cst (s : State) (c : Cls) : (s.withCls c).cst = s.cst := rfl
@[simp] theorem State.withCls_cpt (s : State) (c : Cls) : (s.withCls c).cpt = s.cpt := rfl
@[simp] theorem State.withCls_pending (s : State) (c : Cls) : (s.withCls c).pending = s.pending := rfl

@[simp] theorem State.updCst_siteTime (s : State) (f : Cst → Cst) : (s.updCst f).siteTime = s.siteTime := rfl
@[simp] theorem State.updCst_loaded (s : State) (f : Cst → Cst) : (s.updCst f).loaded = s.loaded := rfl
@[simp] theorem State.updCst_par (s : State) (f : Cst → Cst) : (s.updCst f).par = s.par := rfl
@[simp] theorem State.updCst_scu (s : State) (f : Cst → Cst) : (s.updCst f).scu = s.scu := rfl
@[simp] theorem State.updCst_ptu (s : State) (f : Cst → Cst) : (s.updCst f).ptu = s.ptu := rfl
@[simp] theorem State.updCst_mcs (s : State) (f : Cst → Cst) : (s.updCst f).mcs = s.mcs := rfl
@[simp] theorem State.updCst_apu (s : State) (f : Cst → Cst) : (s.updCst f).apu = s.apu := rfl
@[simp] theorem State.updCst_vau (s : State) (f : Cst → Cst) : (s.updCst f).vau = s.vau := rfl
@[simp] theorem State.updCst_vrt (s : State) (f : Cst → Cst) : (s.updCst f).vrt = s.vrt := rfl
@[simp] theorem State.updCst_cls (s : State) (f : Cst → Cst) : (s.updCst f).cls = s.cls := rfl
@[simp] theorem State.updCst_shu (s : State) (f : Cst → Cst) : (s.updCst f).shu = s.shu := rfl
@[simp] theorem State.updCst_cst (s : State) (f : Cst → Cst) : (s.updCst f).cst = f s.cst := rfl
@[simp] theorem State.updCst_cpt (s : State) (f : Cst → Cst) : (s.updCst f).cpt = s.cpt := rfl
@[simp] theorem State.updCst_pending (s : State) (f : Cst → Cst) : (s.updCst f).pending = s.pending := rfl

@[simp] theorem State.stage_siteTime (s : State) (c : CalSet) : (s.stage c).siteTime = s.siteTime := rfl
@[simp] theorem State.stage_loaded (s : State) (c : CalSet) : (s.stage c).loaded = s.loaded := rfl
@[simp] theorem State.stage_par (s : State) (c : CalSet) : (s.stage c).par = s.par := rfl
@[simp] theorem State.stage_scu (s : State) (c : CalSet) : (s.stage c).scu = s.scu := rfl
@[simp] theorem State.stage_ptu (s : State) (c : CalSet) : (s.stage c).ptu = s.ptu := rfl
@[simp] theorem State.stage_mcs (s : State) (c : CalSet) : (s.stage c).mcs = s.mcs := rfl
@[simp] theorem State.stage_apu (s : State) (c : CalSet) : (s.stage c).apu = s.apu := rfl
@[simp] theorem State.stage_vau (s : State) (c : CalSet) : (s.stage c).vau = s.vau := rfl
@[simp] theorem State.stage_vrt (s : State) (c : CalSet) : (s.stage c).vrt = s.vrt := rfl
@[simp] theorem State.stage_cls (s : State) (c : CalSet) : (s.stage c).cls = s.cls := rfl
@[simp] theorem State.stage_shu (s : State) (c : CalSet) : (s.stage c).shu = s.shu := rfl
@[simp] theorem State.stage_cst (s : State) (c : CalSet) : (s.stage c).cst = { s.cst with staging := c } := rfl
@[simp] theorem State.stage_cpt (s : State) (c : CalSet) : (s.stage c).cpt = s.cpt := rfl
@[simp] theorem State.stage_pending (s : State) (c : CalSet) : (s.stage c).pending = s.pending := rfl

@[simp] theorem State.updProbe_siteTime (s : State) (p : Probe) (f : ProbeUnit → ProbeUnit) : (s.updProbe p f).siteTime = s.siteTime := rfl
@[simp] theorem State.updProbe_loaded (s : State) (p : Probe) (f : ProbeUnit → ProbeUnit) : (s.updProbe p f).loaded = s.loaded := rfl
@[simp] theorem State.updProbe_par (s : State) (p : Probe) (f : ProbeUnit → ProbeUnit) : (s.updProbe p f).par = s.par := rfl
@[simp] theorem State.updProbe_scu (s : State) (p : Probe) (f : ProbeUnit → ProbeUnit) : (s.updProbe p f).scu = s.scu := rfl
@[simp] theorem State.updProbe_ptu (s : State) (p : Probe) (f : ProbeUnit → ProbeUnit) : (s.updProbe p f).ptu = { s.ptu with probe := upd s.ptu.probe p f } := rfl
@[simp] theorem State.updProbe_mcs (s : State) (p : Probe) (f : ProbeUnit → ProbeUnit) : (s.updProbe p f).mcs = s.mcs := rfl
@[simp] theorem State.updProbe_apu (s : State) (p : Probe) (f : ProbeUnit → ProbeUnit) : (s.updProbe p f).apu = s.apu := rfl
@[simp] theorem State.updProbe_vau (s : State) (p : Probe) (f : ProbeUnit → ProbeUnit) : (s.updProbe p f).vau = s.vau := rfl
@[simp] theorem State.updProbe_vrt (s : State) (p : Probe) (f : ProbeUnit → ProbeUnit) : (s.updProbe p f).vrt = s.vrt := rfl
@[simp] theorem State.updProbe_cls (s : State) (p : Probe) (f : ProbeUnit → ProbeUnit) : (s.updProbe p f).cls = s.cls := rfl
@[simp] theorem State.updProbe_shu (s : State) (p : Probe) (f : ProbeUnit → ProbeUnit) : (s.updProbe p f).shu = s.shu := rfl
@[simp] theorem State.updProbe_cst (s : State) (p : Probe) (f : ProbeUnit → ProbeUnit) : (s.updProbe p f).cst = s.cst := rfl
@[simp] theorem State.updProbe_cpt (s : State) (p : Probe) (f : ProbeUnit → ProbeUnit) : (s.updProbe p f).cpt = s.cpt := rfl
@[simp] theorem State.updProbe_pending (s : State) (p : Probe) (f : ProbeUnit → ProbeUnit) : (s.updProbe p f).pending = s.pending := rfl

@[simp] theorem State.updPar_siteTime (s : State) (f : Par → Par) : (s.updPar f).siteTime = s.siteTime := rfl
@[simp] theorem State.updPar_loaded (s : State) (f : Par → Par) : (s.updPar f).loaded = s.loaded := rfl
@[simp] theorem State.updPar_par (s : State) (f : Par → Par) : (s.updPar f).par = f s.par := rfl
@[simp] theorem State.updPar_scu (s : State) (f : Par → Par) : (s.updPar f).scu = s.scu := rfl
@[simp] theorem State.updPar_ptu (s : State) (f : Par → Par) : (s.updPar f).ptu = s.ptu := rfl
@[simp] theorem State.updPar_mcs (s : State) (f : Par → Par) : (s.updPar f).mcs = s.mcs := rfl
@[simp] theorem State.updPar_apu (s : State) (f : Par → Par) : (s.updPar f).apu = s.apu := rfl
@[simp] theorem State.updPar_vau (s : State) (f : Par → Par) : (s.updPar f).vau = s.vau := rfl
@[simp] theorem State.updPar_vrt (s : State) (f : Par → Par) : (s.updPar f).vrt = s.vrt := rfl
@[simp] theorem State.updPar_cls (s : State) (f : Par → Par) : (s.updPar f).cls = s.cls := rfl
@[simp] theorem State.updPar_shu (s : State) (f : Par → Par) : (s.updPar f).shu = s.shu := rfl
@[simp] theorem State.updPar_cst (s : State) (f : Par → Par) : (s.updPar f).cst = s.cst := rfl
@[simp] theorem State.updPar_cpt (s : State) (f : Par → Par) : (s.updPar f).cpt = s.cpt := rfl
@[simp] theorem State.updPar_pending (s : State) (f : Par → Par) : (s.updPar f).pending = s.pending := rfl

@[simp] theorem State.updLanePar_siteTime (s : State) (n : Lane) (f : LanePar → LanePar) : (s.updLanePar n f).siteTime = s.siteTime := rfl
@[simp] theorem State.updLanePar_loaded (s : State) (n : Lane) (f : LanePar → LanePar) : (s.updLanePar n f).loaded = s.loaded := rfl
@[simp] theorem State.updLanePar_par (s : State) (n : Lane) (f : LanePar → LanePar) : (s.updLanePar n f).par = { s.par with lane := upd s.par.lane n f } := rfl
@[simp] theorem State.updLanePar_scu (s : State) (n : Lane) (f : LanePar → LanePar) : (s.updLanePar n f).scu = s.scu := rfl
@[simp] theorem State.updLanePar_ptu (s : State) (n : Lane) (f : LanePar → LanePar) : (s.updLanePar n f).ptu = s.ptu := rfl
@[simp] theorem State.updLanePar_mcs (s : State) (n : Lane) (f : LanePar → LanePar) : (s.updLanePar n f).mcs = s.mcs := rfl
@[simp] theorem State.updLanePar_apu (s : State) (n : Lane) (f : LanePar → LanePar) : (s.updLanePar n f).apu = s.apu := rfl
@[simp] theorem State.updLanePar_vau (s : State) (n : Lane) (f : LanePar → LanePar) : (s.updLanePar n f).vau = s.vau := rfl
@[simp] theorem State.updLanePar_vrt (s : State) (n : Lane) (f : LanePar → LanePar) : (s.updLanePar n f).vrt = s.vrt := rfl
@[simp] theorem State.updLanePar_cls (s : State) (n : Lane) (f : LanePar → LanePar) : (s.updLanePar n f).cls = s.cls := rfl
@[simp] theorem State.updLanePar_shu (s : State) (n : Lane) (f : LanePar → LanePar) : (s.updLanePar n f).shu = s.shu := rfl
@[simp] theorem State.updLanePar_cst (s : State) (n : Lane) (f : LanePar → LanePar) : (s.updLanePar n f).cst = s.cst := rfl
@[simp] theorem State.updLanePar_cpt (s : State) (n : Lane) (f : LanePar → LanePar) : (s.updLanePar n f).cpt = s.cpt := rfl
@[simp] theorem State.updLanePar_pending (s : State) (n : Lane) (f : LanePar → LanePar) : (s.updLanePar n f).pending = s.pending := rfl

@[simp] theorem State.withPending_siteTime (s : State) (f : Vector Slot 4) : (s.withPending f).siteTime = s.siteTime := rfl
@[simp] theorem State.withPending_loaded (s : State) (f : Vector Slot 4) : (s.withPending f).loaded = s.loaded := rfl
@[simp] theorem State.withPending_par (s : State) (f : Vector Slot 4) : (s.withPending f).par = s.par := rfl
@[simp] theorem State.withPending_scu (s : State) (f : Vector Slot 4) : (s.withPending f).scu = s.scu := rfl
@[simp] theorem State.withPending_ptu (s : State) (f : Vector Slot 4) : (s.withPending f).ptu = s.ptu := rfl
@[simp] theorem State.withPending_mcs (s : State) (f : Vector Slot 4) : (s.withPending f).mcs = { s.mcs with pendingFrame := f } := rfl
@[simp] theorem State.withPending_apu (s : State) (f : Vector Slot 4) : (s.withPending f).apu = s.apu := rfl
@[simp] theorem State.withPending_vau (s : State) (f : Vector Slot 4) : (s.withPending f).vau = s.vau := rfl
@[simp] theorem State.withPending_vrt (s : State) (f : Vector Slot 4) : (s.withPending f).vrt = s.vrt := rfl
@[simp] theorem State.withPending_cls (s : State) (f : Vector Slot 4) : (s.withPending f).cls = s.cls := rfl
@[simp] theorem State.withPending_shu (s : State) (f : Vector Slot 4) : (s.withPending f).shu = s.shu := rfl
@[simp] theorem State.withPending_cst (s : State) (f : Vector Slot 4) : (s.withPending f).cst = s.cst := rfl
@[simp] theorem State.withPending_cpt (s : State) (f : Vector Slot 4) : (s.withPending f).cpt = s.cpt := rfl
@[simp] theorem State.withPending_pending (s : State) (f : Vector Slot 4) : (s.withPending f).pending = s.pending := rfl

@[simp] theorem State.setSide_siteTime (s : State) (i : Strip) (w : List Waiting) : (s.setSide i w).siteTime = s.siteTime := rfl
@[simp] theorem State.setSide_loaded (s : State) (i : Strip) (w : List Waiting) : (s.setSide i w).loaded = s.loaded := rfl
@[simp] theorem State.setSide_par (s : State) (i : Strip) (w : List Waiting) : (s.setSide i w).par = s.par := rfl
@[simp] theorem State.setSide_scu (s : State) (i : Strip) (w : List Waiting) : (s.setSide i w).scu = s.scu := rfl
@[simp] theorem State.setSide_ptu (s : State) (i : Strip) (w : List Waiting) : (s.setSide i w).ptu = s.ptu := rfl
@[simp] theorem State.setSide_mcs (s : State) (i : Strip) (w : List Waiting) : (s.setSide i w).mcs = s.mcs := rfl
@[simp] theorem State.setSide_apu (s : State) (i : Strip) (w : List Waiting) : (s.setSide i w).apu = { s.apu with side := upd s.apu.side i fun _ => w } := rfl
@[simp] theorem State.setSide_vau (s : State) (i : Strip) (w : List Waiting) : (s.setSide i w).vau = s.vau := rfl
@[simp] theorem State.setSide_vrt (s : State) (i : Strip) (w : List Waiting) : (s.setSide i w).vrt = s.vrt := rfl
@[simp] theorem State.setSide_cls (s : State) (i : Strip) (w : List Waiting) : (s.setSide i w).cls = s.cls := rfl
@[simp] theorem State.setSide_shu (s : State) (i : Strip) (w : List Waiting) : (s.setSide i w).shu = s.shu := rfl
@[simp] theorem State.setSide_cst (s : State) (i : Strip) (w : List Waiting) : (s.setSide i w).cst = s.cst := rfl
@[simp] theorem State.setSide_cpt (s : State) (i : Strip) (w : List Waiting) : (s.setSide i w).cpt = s.cpt := rfl
@[simp] theorem State.setSide_pending (s : State) (i : Strip) (w : List Waiting) : (s.setSide i w).pending = s.pending := rfl

@[simp] theorem State.setQueue_siteTime (s : State) (n : Lane) (q : List QueueEntry) : (s.setQueue n q).siteTime = s.siteTime := rfl
@[simp] theorem State.setQueue_loaded (s : State) (n : Lane) (q : List QueueEntry) : (s.setQueue n q).loaded = s.loaded := rfl
@[simp] theorem State.setQueue_par (s : State) (n : Lane) (q : List QueueEntry) : (s.setQueue n q).par = s.par := rfl
@[simp] theorem State.setQueue_scu (s : State) (n : Lane) (q : List QueueEntry) : (s.setQueue n q).scu = s.scu := rfl
@[simp] theorem State.setQueue_ptu (s : State) (n : Lane) (q : List QueueEntry) : (s.setQueue n q).ptu = s.ptu := rfl
@[simp] theorem State.setQueue_mcs (s : State) (n : Lane) (q : List QueueEntry) : (s.setQueue n q).mcs = s.mcs := rfl
@[simp] theorem State.setQueue_apu (s : State) (n : Lane) (q : List QueueEntry) : (s.setQueue n q).apu = { s.apu with queue := upd s.apu.queue n fun _ => q } := rfl
@[simp] theorem State.setQueue_vau (s : State) (n : Lane) (q : List QueueEntry) : (s.setQueue n q).vau = s.vau := rfl
@[simp] theorem State.setQueue_vrt (s : State) (n : Lane) (q : List QueueEntry) : (s.setQueue n q).vrt = s.vrt := rfl
@[simp] theorem State.setQueue_cls (s : State) (n : Lane) (q : List QueueEntry) : (s.setQueue n q).cls = s.cls := rfl
@[simp] theorem State.setQueue_shu (s : State) (n : Lane) (q : List QueueEntry) : (s.setQueue n q).shu = s.shu := rfl
@[simp] theorem State.setQueue_cst (s : State) (n : Lane) (q : List QueueEntry) : (s.setQueue n q).cst = s.cst := rfl
@[simp] theorem State.setQueue_cpt (s : State) (n : Lane) (q : List QueueEntry) : (s.setQueue n q).cpt = s.cpt := rfl
@[simp] theorem State.setQueue_pending (s : State) (n : Lane) (q : List QueueEntry) : (s.setQueue n q).pending = s.pending := rfl

@[simp] theorem State.setWork_siteTime (s : State) (w : Work) : (s.setWork w).siteTime = s.siteTime := rfl
@[simp] theorem State.setWork_loaded (s : State) (w : Work) : (s.setWork w).loaded = s.loaded := rfl
@[simp] theorem State.setWork_par (s : State) (w : Work) : (s.setWork w).par = s.par := rfl
@[simp] theorem State.setWork_scu (s : State) (w : Work) : (s.setWork w).scu = s.scu := rfl
@[simp] theorem State.setWork_ptu (s : State) (w : Work) : (s.setWork w).ptu = s.ptu := rfl
@[simp] theorem State.setWork_mcs (s : State) (w : Work) : (s.setWork w).mcs = { s.mcs with work := w } := rfl
@[simp] theorem State.setWork_apu (s : State) (w : Work) : (s.setWork w).apu = s.apu := rfl
@[simp] theorem State.setWork_vau (s : State) (w : Work) : (s.setWork w).vau = s.vau := rfl
@[simp] theorem State.setWork_vrt (s : State) (w : Work) : (s.setWork w).vrt = s.vrt := rfl
@[simp] theorem State.setWork_cls (s : State) (w : Work) : (s.setWork w).cls = s.cls := rfl
@[simp] theorem State.setWork_shu (s : State) (w : Work) : (s.setWork w).shu = s.shu := rfl
@[simp] theorem State.setWork_cst (s : State) (w : Work) : (s.setWork w).cst = s.cst := rfl
@[simp] theorem State.setWork_cpt (s : State) (w : Work) : (s.setWork w).cpt = s.cpt := rfl
@[simp] theorem State.setWork_pending (s : State) (w : Work) : (s.setWork w).pending = s.pending := rfl

@[simp] theorem State.setPrev_siteTime (s : State) (r : SlotOutcome) : (s.setPrev r).siteTime = s.siteTime := rfl
@[simp] theorem State.setPrev_loaded (s : State) (r : SlotOutcome) : (s.setPrev r).loaded = s.loaded := rfl
@[simp] theorem State.setPrev_par (s : State) (r : SlotOutcome) : (s.setPrev r).par = s.par := rfl
@[simp] theorem State.setPrev_scu (s : State) (r : SlotOutcome) : (s.setPrev r).scu = s.scu := rfl
@[simp] theorem State.setPrev_ptu (s : State) (r : SlotOutcome) : (s.setPrev r).ptu = s.ptu := rfl
@[simp] theorem State.setPrev_mcs (s : State) (r : SlotOutcome) : (s.setPrev r).mcs = { s.mcs with prev := r } := rfl
@[simp] theorem State.setPrev_apu (s : State) (r : SlotOutcome) : (s.setPrev r).apu = s.apu := rfl
@[simp] theorem State.setPrev_vau (s : State) (r : SlotOutcome) : (s.setPrev r).vau = s.vau := rfl
@[simp] theorem State.setPrev_vrt (s : State) (r : SlotOutcome) : (s.setPrev r).vrt = s.vrt := rfl
@[simp] theorem State.setPrev_cls (s : State) (r : SlotOutcome) : (s.setPrev r).cls = s.cls := rfl
@[simp] theorem State.setPrev_shu (s : State) (r : SlotOutcome) : (s.setPrev r).shu = s.shu := rfl
@[simp] theorem State.setPrev_cst (s : State) (r : SlotOutcome) : (s.setPrev r).cst = s.cst := rfl
@[simp] theorem State.setPrev_cpt (s : State) (r : SlotOutcome) : (s.setPrev r).cpt = s.cpt := rfl
@[simp] theorem State.setPrev_pending (s : State) (r : SlotOutcome) : (s.setPrev r).pending = s.pending := rfl

@[simp] theorem State.request_siteTime (s : State) (i : Strip) (o : Origin) : (s.request i o).siteTime = s.siteTime := rfl
@[simp] theorem State.request_loaded (s : State) (i : Strip) (o : Origin) : (s.request i o).loaded = s.loaded := rfl
@[simp] theorem State.request_par (s : State) (i : Strip) (o : Origin) : (s.request i o).par = s.par := rfl
@[simp] theorem State.request_scu (s : State) (i : Strip) (o : Origin) : (s.request i o).scu = s.scu := rfl
@[simp] theorem State.request_ptu (s : State) (i : Strip) (o : Origin) : (s.request i o).ptu = s.ptu := rfl
@[simp] theorem State.request_mcs (s : State) (i : Strip) (o : Origin) : (s.request i o).mcs = s.mcs.request i o := rfl
@[simp] theorem State.request_apu (s : State) (i : Strip) (o : Origin) : (s.request i o).apu = s.apu := rfl
@[simp] theorem State.request_vau (s : State) (i : Strip) (o : Origin) : (s.request i o).vau = s.vau := rfl
@[simp] theorem State.request_vrt (s : State) (i : Strip) (o : Origin) : (s.request i o).vrt = s.vrt := rfl
@[simp] theorem State.request_cls (s : State) (i : Strip) (o : Origin) : (s.request i o).cls = s.cls := rfl
@[simp] theorem State.request_shu (s : State) (i : Strip) (o : Origin) : (s.request i o).shu = s.shu := rfl
@[simp] theorem State.request_cst (s : State) (i : Strip) (o : Origin) : (s.request i o).cst = s.cst := rfl
@[simp] theorem State.request_cpt (s : State) (i : Strip) (o : Origin) : (s.request i o).cpt = s.cpt := rfl
@[simp] theorem State.request_pending (s : State) (i : Strip) (o : Origin) : (s.request i o).pending = s.pending := rfl

@[simp] theorem State.settle_siteTime (s : State) (i : Strip) : (s.settle i).siteTime = s.siteTime := rfl
@[simp] theorem State.settle_loaded (s : State) (i : Strip) : (s.settle i).loaded = s.loaded := rfl
@[simp] theorem State.settle_par (s : State) (i : Strip) : (s.settle i).par = s.par := rfl
@[simp] theorem State.settle_scu (s : State) (i : Strip) : (s.settle i).scu = upd s.scu i fun u => { u with conn := .settling 0 } := rfl
@[simp] theorem State.settle_ptu (s : State) (i : Strip) : (s.settle i).ptu = s.ptu := rfl
@[simp] theorem State.settle_mcs (s : State) (i : Strip) : (s.settle i).mcs = s.mcs := rfl
@[simp] theorem State.settle_apu (s : State) (i : Strip) : (s.settle i).apu = s.apu := rfl
@[simp] theorem State.settle_vau (s : State) (i : Strip) : (s.settle i).vau = s.vau := rfl
@[simp] theorem State.settle_vrt (s : State) (i : Strip) : (s.settle i).vrt = s.vrt := rfl
@[simp] theorem State.settle_cls (s : State) (i : Strip) : (s.settle i).cls = s.cls := rfl
@[simp] theorem State.settle_shu (s : State) (i : Strip) : (s.settle i).shu = s.shu := rfl
@[simp] theorem State.settle_cst (s : State) (i : Strip) : (s.settle i).cst = s.cst := rfl
@[simp] theorem State.settle_cpt (s : State) (i : Strip) : (s.settle i).cpt = s.cpt := rfl
@[simp] theorem State.settle_pending (s : State) (i : Strip) : (s.settle i).pending = s.pending := rfl

@[simp] theorem State.latchShort_siteTime (s : State) : (s.latchShort).siteTime = s.siteTime := rfl
@[simp] theorem State.latchShort_loaded (s : State) : (s.latchShort).loaded = s.loaded := rfl
@[simp] theorem State.latchShort_par (s : State) : (s.latchShort).par = s.par := rfl
@[simp] theorem State.latchShort_scu (s : State) : (s.latchShort).scu = s.scu := rfl
@[simp] theorem State.latchShort_ptu (s : State) : (s.latchShort).ptu = s.ptu := rfl
@[simp] theorem State.latchShort_mcs (s : State) : (s.latchShort).mcs = s.mcs := rfl
@[simp] theorem State.latchShort_apu (s : State) : (s.latchShort).apu = s.apu := rfl
@[simp] theorem State.latchShort_vau (s : State) : (s.latchShort).vau = s.vau := rfl
@[simp] theorem State.latchShort_vrt (s : State) : (s.latchShort).vrt = s.vrt := rfl
@[simp] theorem State.latchShort_cls (s : State) : (s.latchShort).cls = s.cls := rfl
@[simp] theorem State.latchShort_shu (s : State) : (s.latchShort).shu = s.shu := rfl
@[simp] theorem State.latchShort_cst (s : State) : (s.latchShort).cst = s.cst := rfl
@[simp] theorem State.latchShort_cpt (s : State) : (s.latchShort).cpt = { s.cpt with scheduleShort := true } := rfl
@[simp] theorem State.latchShort_pending (s : State) : (s.latchShort).pending = s.pending := rfl

@[simp] theorem State.clearLatches_siteTime (s : State) : (s.clearLatches).siteTime = s.siteTime := rfl
@[simp] theorem State.clearLatches_loaded (s : State) : (s.clearLatches).loaded = s.loaded := rfl
@[simp] theorem State.clearLatches_par (s : State) : (s.clearLatches).par = s.par := rfl
@[simp] theorem State.clearLatches_scu (s : State) : (s.clearLatches).scu = s.scu := rfl
@[simp] theorem State.clearLatches_ptu (s : State) : (s.clearLatches).ptu = s.ptu := rfl
@[simp] theorem State.clearLatches_mcs (s : State) : (s.clearLatches).mcs = s.mcs := rfl
@[simp] theorem State.clearLatches_apu (s : State) : (s.clearLatches).apu = s.apu := rfl
@[simp] theorem State.clearLatches_vau (s : State) : (s.clearLatches).vau = s.vau := rfl
@[simp] theorem State.clearLatches_vrt (s : State) : (s.clearLatches).vrt = s.vrt := rfl
@[simp] theorem State.clearLatches_cls (s : State) : (s.clearLatches).cls = s.cls := rfl
@[simp] theorem State.clearLatches_shu (s : State) : (s.clearLatches).shu = s.shu := rfl
@[simp] theorem State.clearLatches_cst (s : State) : (s.clearLatches).cst = s.cst := rfl
@[simp] theorem State.clearLatches_cpt (s : State) : (s.clearLatches).cpt = { s.cpt with calEvent := false, unrecordedLatch := false, scheduleShort := false } := rfl
@[simp] theorem State.clearLatches_pending (s : State) : (s.clearLatches).pending = s.pending := rfl

@[simp] theorem State.drive_siteTime (s : State) (n : Nat) : (s.drive n).siteTime = s.siteTime := rfl
@[simp] theorem State.drive_loaded (s : State) (n : Nat) : (s.drive n).loaded = s.loaded := rfl
@[simp] theorem State.drive_par (s : State) (n : Nat) : (s.drive n).par = s.par := rfl
@[simp] theorem State.drive_scu (s : State) (n : Nat) : (s.drive n).scu = s.scu := rfl
@[simp] theorem State.drive_ptu (s : State) (n : Nat) : (s.drive n).ptu = s.ptu := rfl
@[simp] theorem State.drive_mcs (s : State) (n : Nat) : (s.drive n).mcs = s.mcs := rfl
@[simp] theorem State.drive_apu (s : State) (n : Nat) : (s.drive n).apu = s.apu := rfl
@[simp] theorem State.drive_vau (s : State) (n : Nat) : (s.drive n).vau = s.vau := rfl
@[simp] theorem State.drive_vrt (s : State) (n : Nat) : (s.drive n).vrt = s.vrt := rfl
@[simp] theorem State.drive_cls (s : State) (n : Nat) : (s.drive n).cls = s.cls := rfl
@[simp] theorem State.drive_shu (s : State) (n : Nat) : (s.drive n).shu = s.shu := rfl
@[simp] theorem State.drive_cst (s : State) (n : Nat) : (s.drive n).cst = s.cst := rfl
@[simp] theorem State.drive_cpt (s : State) (n : Nat) : (s.drive n).cpt = { s.cpt with miso := s.cpt.resp.driven n } := rfl
@[simp] theorem State.drive_pending (s : State) (n : Nat) : (s.drive n).pending = s.pending := rfl

@[simp] theorem State.release_siteTime (s : State) : (s.release).siteTime = s.siteTime := rfl
@[simp] theorem State.release_loaded (s : State) : (s.release).loaded = s.loaded := rfl
@[simp] theorem State.release_par (s : State) : (s.release).par = s.par := rfl
@[simp] theorem State.release_scu (s : State) : (s.release).scu = s.scu := rfl
@[simp] theorem State.release_ptu (s : State) : (s.release).ptu = s.ptu := rfl
@[simp] theorem State.release_mcs (s : State) : (s.release).mcs = s.mcs := rfl
@[simp] theorem State.release_apu (s : State) : (s.release).apu = s.apu := rfl
@[simp] theorem State.release_vau (s : State) : (s.release).vau = s.vau := rfl
@[simp] theorem State.release_vrt (s : State) : (s.release).vrt = s.vrt := rfl
@[simp] theorem State.release_cls (s : State) : (s.release).cls = s.cls := rfl
@[simp] theorem State.release_shu (s : State) : (s.release).shu = s.shu := rfl
@[simp] theorem State.release_cst (s : State) : (s.release).cst = s.cst := rfl
@[simp] theorem State.release_cpt (s : State) : (s.release).cpt = { s.cpt with miso := [] } := rfl
@[simp] theorem State.release_pending (s : State) : (s.release).pending = s.pending := rfl

@[simp] theorem State.respond_siteTime (s : State) (c : Byte) (r : Reply) : (s.respond c r).siteTime = s.siteTime := rfl
@[simp] theorem State.respond_loaded (s : State) (c : Byte) (r : Reply) : (s.respond c r).loaded = s.loaded := rfl
@[simp] theorem State.respond_par (s : State) (c : Byte) (r : Reply) : (s.respond c r).par = s.par := rfl
@[simp] theorem State.respond_scu (s : State) (c : Byte) (r : Reply) : (s.respond c r).scu = s.scu := rfl
@[simp] theorem State.respond_ptu (s : State) (c : Byte) (r : Reply) : (s.respond c r).ptu = s.ptu := rfl
@[simp] theorem State.respond_mcs (s : State) (c : Byte) (r : Reply) : (s.respond c r).mcs = s.mcs := rfl
@[simp] theorem State.respond_apu (s : State) (c : Byte) (r : Reply) : (s.respond c r).apu = s.apu := rfl
@[simp] theorem State.respond_vau (s : State) (c : Byte) (r : Reply) : (s.respond c r).vau = s.vau := rfl
@[simp] theorem State.respond_vrt (s : State) (c : Byte) (r : Reply) : (s.respond c r).vrt = s.vrt := rfl
@[simp] theorem State.respond_cls (s : State) (c : Byte) (r : Reply) : (s.respond c r).cls = s.cls := rfl
@[simp] theorem State.respond_shu (s : State) (c : Byte) (r : Reply) : (s.respond c r).shu = s.shu := rfl
@[simp] theorem State.respond_cst (s : State) (c : Byte) (r : Reply) : (s.respond c r).cst = s.cst := rfl
@[simp] theorem State.respond_cpt (s : State) (c : Byte) (r : Reply) : (s.respond c r).cpt = { s.cpt with resp := { status := r.status, echo := c, payload := r.payload } } := rfl
@[simp] theorem State.respond_pending (s : State) (c : Byte) (r : Reply) : (s.respond c r).pending = s.pending := rfl

@[simp] theorem State.orphan_siteTime (s : State) (n : Lane) : (s.orphan n).siteTime = s.siteTime := rfl
@[simp] theorem State.orphan_loaded (s : State) (n : Lane) : (s.orphan n).loaded = s.loaded := rfl
@[simp] theorem State.orphan_par (s : State) (n : Lane) : (s.orphan n).par = s.par := rfl
@[simp] theorem State.orphan_scu (s : State) (n : Lane) : (s.orphan n).scu = s.scu := rfl
@[simp] theorem State.orphan_ptu (s : State) (n : Lane) : (s.orphan n).ptu = s.ptu := rfl
@[simp] theorem State.orphan_mcs (s : State) (n : Lane) : (s.orphan n).mcs = s.mcs := rfl
@[simp] theorem State.orphan_apu (s : State) (n : Lane) : (s.orphan n).apu = { s.apu with orphans := upd s.apu.orphans n bump } := rfl
@[simp] theorem State.orphan_vau (s : State) (n : Lane) : (s.orphan n).vau = s.vau := rfl
@[simp] theorem State.orphan_vrt (s : State) (n : Lane) : (s.orphan n).vrt = s.vrt := rfl
@[simp] theorem State.orphan_cls (s : State) (n : Lane) : (s.orphan n).cls = s.cls := rfl
@[simp] theorem State.orphan_shu (s : State) (n : Lane) : (s.orphan n).shu = s.shu := rfl
@[simp] theorem State.orphan_cst (s : State) (n : Lane) : (s.orphan n).cst = s.cst := rfl
@[simp] theorem State.orphan_cpt (s : State) (n : Lane) : (s.orphan n).cpt = s.cpt := rfl
@[simp] theorem State.orphan_pending (s : State) (n : Lane) : (s.orphan n).pending = s.pending := rfl

end Sys2Proof.Machine
end

