-- ==== Sys2Proof/Laws/Ops.lean ====
section
/-! SUPPORT. The frames of the composite operations: the fields of `State` that each one leaves as they are, for every state and
operand. -/

namespace Sys2Proof.Machine

@[simp] theorem State.reevaluate_frame (s : State) (i : Strip) :
    (s.reevaluate i).siteTime = s.siteTime ∧
    (s.reevaluate i).loaded = s.loaded ∧
    (s.reevaluate i).par = s.par ∧
    (s.reevaluate i).scu = s.scu ∧
    (s.reevaluate i).ptu = s.ptu ∧
    (s.reevaluate i).apu = s.apu ∧
    (s.reevaluate i).vau = s.vau ∧
    (s.reevaluate i).vrt = s.vrt ∧
    (s.reevaluate i).cls = s.cls ∧
    (s.reevaluate i).cst = s.cst ∧
    (s.reevaluate i).cpt = s.cpt ∧
    (s.reevaluate i).pending = s.pending := by
  unfold State.reevaluate
  split <;> simp

@[simp] theorem State.evidence_frame (s : State) (i : Strip) (f : Causes → Causes) :
    (s.evidence i f).siteTime = s.siteTime ∧
    (s.evidence i f).loaded = s.loaded ∧
    (s.evidence i f).par = s.par ∧
    (s.evidence i f).scu = s.scu ∧
    (s.evidence i f).ptu = s.ptu ∧
    (s.evidence i f).apu = s.apu ∧
    (s.evidence i f).vau = s.vau ∧
    (s.evidence i f).vrt = s.vrt ∧
    (s.evidence i f).cls = s.cls ∧
    (s.evidence i f).cst = s.cst ∧
    (s.evidence i f).cpt = s.cpt ∧
    (s.evidence i f).pending = s.pending := by
  unfold State.evidence
  split <;> simp

@[simp] theorem State.takeOut_frame (s : State) (i : Strip) :
    (s.takeOut i).siteTime = s.siteTime ∧
    (s.takeOut i).loaded = s.loaded ∧
    (s.takeOut i).par = s.par ∧
    (s.takeOut i).ptu = s.ptu ∧
    (s.takeOut i).mcs = s.mcs ∧
    (s.takeOut i).vau = s.vau ∧
    (s.takeOut i).vrt = s.vrt ∧
    (s.takeOut i).cls = s.cls ∧
    (s.takeOut i).cst = s.cst ∧
    (s.takeOut i).cpt = s.cpt ∧
    (s.takeOut i).pending = s.pending := by
  simp [State.takeOut]

@[simp] theorem State.failOut_frame (s : State) (i : Strip) :
    (s.failOut i).siteTime = s.siteTime ∧
    (s.failOut i).loaded = s.loaded ∧
    (s.failOut i).par = s.par ∧
    (s.failOut i).ptu = s.ptu ∧
    (s.failOut i).mcs = s.mcs ∧
    (s.failOut i).vau = s.vau ∧
    (s.failOut i).vrt = s.vrt ∧
    (s.failOut i).cls = s.cls ∧
    (s.failOut i).cst = s.cst ∧
    (s.failOut i).cpt = s.cpt ∧
    (s.failOut i).pending = s.pending := by
  simp [State.failOut]

@[simp] theorem State.miss_frame (s : State) (i : Strip) :
    (s.miss i).siteTime = s.siteTime ∧
    (s.miss i).loaded = s.loaded ∧
    (s.miss i).par = s.par ∧
    (s.miss i).ptu = s.ptu ∧
    (s.miss i).vau = s.vau ∧
    (s.miss i).vrt = s.vrt ∧
    (s.miss i).cls = s.cls ∧
    (s.miss i).cst = s.cst ∧
    (s.miss i).cpt = s.cpt ∧
    (s.miss i).pending = s.pending := by
  simp only [State.miss]
  repeat' split
  all_goals simp

@[simp] theorem State.missReport_frame (s : State) (i : Strip) (t : Time) :
    (s.missReport i t).siteTime = s.siteTime ∧
    (s.missReport i t).loaded = s.loaded ∧
    (s.missReport i t).par = s.par ∧
    (s.missReport i t).ptu = s.ptu ∧
    (s.missReport i t).vau = s.vau ∧
    (s.missReport i t).vrt = s.vrt ∧
    (s.missReport i t).cls = s.cls ∧
    (s.missReport i t).cst = s.cst ∧
    (s.missReport i t).cpt = s.cpt ∧
    (s.missReport i t).pending = s.pending := by
  unfold State.missReport
  split <;> simp

@[simp] theorem State.contribution_frame (s : State) (i : Strip) :
    (s.contribution i).siteTime = s.siteTime ∧
    (s.contribution i).loaded = s.loaded ∧
    (s.contribution i).par = s.par ∧
    (s.contribution i).scu = s.scu ∧
    (s.contribution i).ptu = s.ptu ∧
    (s.contribution i).apu = s.apu ∧
    (s.contribution i).vau = s.vau ∧
    (s.contribution i).vrt = s.vrt ∧
    (s.contribution i).cls = s.cls ∧
    (s.contribution i).cst = s.cst ∧
    (s.contribution i).cpt = s.cpt ∧
    (s.contribution i).pending = s.pending := by
  unfold State.contribution
  split <;> simp

@[simp] theorem State.clearPinned_frame (s : State) (i : Strip) :
    (s.clearPinned i).siteTime = s.siteTime ∧
    (s.clearPinned i).loaded = s.loaded ∧
    (s.clearPinned i).par = s.par ∧
    (s.clearPinned i).ptu = s.ptu ∧
    (s.clearPinned i).apu = s.apu ∧
    (s.clearPinned i).vau = s.vau ∧
    (s.clearPinned i).vrt = s.vrt ∧
    (s.clearPinned i).cls = s.cls ∧
    (s.clearPinned i).cst = s.cst ∧
    (s.clearPinned i).cpt = s.cpt ∧
    (s.clearPinned i).pending = s.pending := by
  simp [State.clearPinned]

@[simp] theorem State.windowChange_frame (s : State) (i : Strip) :
    (s.windowChange i).siteTime = s.siteTime ∧
    (s.windowChange i).loaded = s.loaded ∧
    (s.windowChange i).par = s.par ∧
    (s.windowChange i).ptu = s.ptu ∧
    (s.windowChange i).apu = s.apu ∧
    (s.windowChange i).vau = s.vau ∧
    (s.windowChange i).vrt = s.vrt ∧
    (s.windowChange i).cls = s.cls ∧
    (s.windowChange i).cst = s.cst ∧
    (s.windowChange i).cpt = s.cpt ∧
    (s.windowChange i).pending = s.pending := by
  simp [State.windowChange]

@[simp] theorem State.abortTest_frame (s : State) (f : Flight) :
    (s.abortTest f).siteTime = s.siteTime ∧
    (s.abortTest f).loaded = s.loaded ∧
    (s.abortTest f).par = s.par ∧
    (s.abortTest f).ptu = s.ptu ∧
    (s.abortTest f).apu = s.apu ∧
    (s.abortTest f).vau = s.vau ∧
    (s.abortTest f).vrt = s.vrt ∧
    (s.abortTest f).cls = s.cls ∧
    (s.abortTest f).shu = s.shu ∧
    (s.abortTest f).cst = s.cst ∧
    (s.abortTest f).cpt = s.cpt ∧
    (s.abortTest f).pending = s.pending := by
  simp [State.abortTest]

@[simp] theorem State.pulseStart_frame (s : State) (n : Lane) :
    (s.pulseStart n).siteTime = s.siteTime ∧
    (s.pulseStart n).loaded = s.loaded ∧
    (s.pulseStart n).par = s.par ∧
    (s.pulseStart n).ptu = s.ptu ∧
    (s.pulseStart n).apu = s.apu ∧
    (s.pulseStart n).vau = s.vau ∧
    (s.pulseStart n).vrt = s.vrt ∧
    (s.pulseStart n).cls = s.cls ∧
    (s.pulseStart n).shu = s.shu ∧
    (s.pulseStart n).cst = s.cst ∧
    (s.pulseStart n).cpt = s.cpt ∧
    (s.pulseStart n).pending = s.pending := by
  simp only [State.pulseStart]
  repeat' split
  all_goals simp

@[simp] theorem State.deliver_frame (s : State) (r : PulseRecord) (d : Bool) :
    (s.deliver r d).siteTime = s.siteTime ∧
    (s.deliver r d).loaded = s.loaded ∧
    (s.deliver r d).par = s.par ∧
    (s.deliver r d).scu = s.scu ∧
    (s.deliver r d).ptu = s.ptu ∧
    (s.deliver r d).mcs = s.mcs ∧
    (s.deliver r d).vau = s.vau ∧
    (s.deliver r d).vrt = s.vrt ∧
    (s.deliver r d).cls = s.cls ∧
    (s.deliver r d).shu = s.shu ∧
    (s.deliver r d).cst = s.cst ∧
    (s.deliver r d).cpt = s.cpt ∧
    (s.deliver r d).pending = s.pending := by
  unfold State.deliver
  split <;> simp

@[simp] theorem State.normalEnd_frame (s : State) (i : Strip) (p : PulseCtx) :
    (s.normalEnd i p).siteTime = s.siteTime ∧
    (s.normalEnd i p).loaded = s.loaded ∧
    (s.normalEnd i p).par = s.par ∧
    (s.normalEnd i p).ptu = s.ptu ∧
    (s.normalEnd i p).vau = s.vau ∧
    (s.normalEnd i p).vrt = s.vrt ∧
    (s.normalEnd i p).cls = s.cls ∧
    (s.normalEnd i p).cst = s.cst ∧
    (s.normalEnd i p).cpt = s.cpt ∧
    (s.normalEnd i p).pending = s.pending := by
  simp [State.normalEnd]

@[simp] theorem State.longCut_frame (s : State) (i : Strip) (p : PulseCtx) :
    (s.longCut i p).siteTime = s.siteTime ∧
    (s.longCut i p).loaded = s.loaded ∧
    (s.longCut i p).par = s.par ∧
    (s.longCut i p).ptu = s.ptu ∧
    (s.longCut i p).mcs = s.mcs ∧
    (s.longCut i p).vau = s.vau ∧
    (s.longCut i p).vrt = s.vrt ∧
    (s.longCut i p).cls = s.cls ∧
    (s.longCut i p).shu = s.shu ∧
    (s.longCut i p).cst = s.cst ∧
    (s.longCut i p).cpt = s.cpt ∧
    (s.longCut i p).pending = s.pending := by
  simp [State.longCut]

@[simp] theorem State.pulseSample_frame (s : State) (i : Strip) (p : PulseCtx) (d : Int) (c : Bool) :
    (s.pulseSample i p d c).siteTime = s.siteTime ∧
    (s.pulseSample i p d c).loaded = s.loaded ∧
    (s.pulseSample i p d c).par = s.par ∧
    (s.pulseSample i p d c).ptu = s.ptu ∧
    (s.pulseSample i p d c).vau = s.vau ∧
    (s.pulseSample i p d c).vrt = s.vrt ∧
    (s.pulseSample i p d c).cls = s.cls ∧
    (s.pulseSample i p d c).cst = s.cst ∧
    (s.pulseSample i p d c).cpt = s.cpt ∧
    (s.pulseSample i p d c).pending = s.pending := by
  simp only [State.pulseSample]
  repeat' split
  all_goals simp

@[simp] theorem State.standingSample_frame (s : State) (i : Strip) (st : Standing) (d : Int) :
    (s.standingSample i st d).siteTime = s.siteTime ∧
    (s.standingSample i st d).loaded = s.loaded ∧
    (s.standingSample i st d).par = s.par ∧
    (s.standingSample i st d).ptu = s.ptu ∧
    (s.standingSample i st d).mcs = s.mcs ∧
    (s.standingSample i st d).apu = s.apu ∧
    (s.standingSample i st d).vau = s.vau ∧
    (s.standingSample i st d).vrt = s.vrt ∧
    (s.standingSample i st d).cls = s.cls ∧
    (s.standingSample i st d).shu = s.shu ∧
    (s.standingSample i st d).cst = s.cst ∧
    (s.standingSample i st d).cpt = s.cpt ∧
    (s.standingSample i st d).pending = s.pending := by
  simp only [State.standingSample]
  repeat' split
  all_goals simp

@[simp] theorem State.restSample_frame (s : State) (i : Strip) (x d : Int) (c : Bool) :
    (s.restSample i x d c).siteTime = s.siteTime ∧
    (s.restSample i x d c).loaded = s.loaded ∧
    (s.restSample i x d c).par = s.par ∧
    (s.restSample i x d c).ptu = s.ptu ∧
    (s.restSample i x d c).apu = s.apu ∧
    (s.restSample i x d c).vau = s.vau ∧
    (s.restSample i x d c).vrt = s.vrt ∧
    (s.restSample i x d c).cls = s.cls ∧
    (s.restSample i x d c).shu = s.shu ∧
    (s.restSample i x d c).cst = s.cst ∧
    (s.restSample i x d c).cpt = s.cpt ∧
    (s.restSample i x d c).pending = s.pending := by
  simp only [State.restSample]
  split <;> simp

@[simp] theorem State.settlingSample_frame (s : State) (i : Strip) (k : Nat) :
    (s.settlingSample i k).siteTime = s.siteTime ∧
    (s.settlingSample i k).loaded = s.loaded ∧
    (s.settlingSample i k).par = s.par ∧
    (s.settlingSample i k).ptu = s.ptu ∧
    (s.settlingSample i k).mcs = s.mcs ∧
    (s.settlingSample i k).apu = s.apu ∧
    (s.settlingSample i k).vau = s.vau ∧
    (s.settlingSample i k).vrt = s.vrt ∧
    (s.settlingSample i k).cls = s.cls ∧
    (s.settlingSample i k).shu = s.shu ∧
    (s.settlingSample i k).cst = s.cst ∧
    (s.settlingSample i k).cpt = s.cpt ∧
    (s.settlingSample i k).pending = s.pending := by
  unfold State.settlingSample
  split <;> simp

@[simp] theorem State.takeSample_frame (s : State) (i : Strip) (c : BitVec 16) :
    (s.takeSample i c).siteTime = s.siteTime ∧
    (s.takeSample i c).loaded = s.loaded ∧
    (s.takeSample i c).par = s.par ∧
    (s.takeSample i c).ptu = s.ptu ∧
    (s.takeSample i c).vau = s.vau ∧
    (s.takeSample i c).vrt = s.vrt ∧
    (s.takeSample i c).cls = s.cls ∧
    (s.takeSample i c).cst = s.cst ∧
    (s.takeSample i c).cpt = s.cpt ∧
    (s.takeSample i c).pending = s.pending := by
  simp only [State.takeSample]
  repeat' split
  all_goals simp

@[simp] theorem State.sampleRow_frame (s : State) (k : SampleKind) (i : Strip) (c : BitVec 16) :
    (s.sampleRow k i c).siteTime = s.siteTime ∧
    (s.sampleRow k i c).loaded = s.loaded ∧
    (s.sampleRow k i c).par = s.par ∧
    (s.sampleRow k i c).ptu = s.ptu ∧
    (s.sampleRow k i c).vau = s.vau ∧
    (s.sampleRow k i c).vrt = s.vrt ∧
    (s.sampleRow k i c).cls = s.cls ∧
    (s.sampleRow k i c).cst = s.cst ∧
    (s.sampleRow k i c).cpt = s.cpt ∧
    (s.sampleRow k i c).pending = s.pending := by
  unfold State.sampleRow
  split <;> simp

@[simp] theorem State.autoZero_frame (s : State) (i : Strip) :
    (s.autoZero i).siteTime = s.siteTime ∧
    (s.autoZero i).loaded = s.loaded ∧
    (s.autoZero i).par = s.par ∧
    (s.autoZero i).ptu = s.ptu ∧
    (s.autoZero i).apu = s.apu ∧
    (s.autoZero i).vau = s.vau ∧
    (s.autoZero i).vrt = s.vrt ∧
    (s.autoZero i).cls = s.cls ∧
    (s.autoZero i).cst = s.cst ∧
    (s.autoZero i).cpt = s.cpt ∧
    (s.autoZero i).pending = s.pending := by
  simp only [State.autoZero]
  repeat' split
  all_goals simp

@[simp] theorem State.recomputeLane_frame (s : State) (n : Lane) :
    (s.recomputeLane n).siteTime = s.siteTime ∧
    (s.recomputeLane n).loaded = s.loaded ∧
    (s.recomputeLane n).par = s.par ∧
    (s.recomputeLane n).scu = s.scu ∧
    (s.recomputeLane n).mcs = s.mcs ∧
    (s.recomputeLane n).apu = s.apu ∧
    (s.recomputeLane n).vau = s.vau ∧
    (s.recomputeLane n).vrt = s.vrt ∧
    (s.recomputeLane n).cls = s.cls ∧
    (s.recomputeLane n).shu = s.shu ∧
    (s.recomputeLane n).cst = s.cst ∧
    (s.recomputeLane n).cpt = s.cpt ∧
    (s.recomputeLane n).pending = s.pending := by
  simp [State.recomputeLane]

@[simp] theorem State.recomputeLanes_frame (s : State) :
    (s.recomputeLanes).siteTime = s.siteTime ∧
    (s.recomputeLanes).loaded = s.loaded ∧
    (s.recomputeLanes).par = s.par ∧
    (s.recomputeLanes).scu = s.scu ∧
    (s.recomputeLanes).mcs = s.mcs ∧
    (s.recomputeLanes).apu = s.apu ∧
    (s.recomputeLanes).vau = s.vau ∧
    (s.recomputeLanes).vrt = s.vrt ∧
    (s.recomputeLanes).cls = s.cls ∧
    (s.recomputeLanes).shu = s.shu ∧
    (s.recomputeLanes).cst = s.cst ∧
    (s.recomputeLanes).cpt = s.cpt ∧
    (s.recomputeLanes).pending = s.pending := by
  simp [State.recomputeLanes, allLanes]

@[simp] theorem State.newF_frame (s : State) (p : Probe) (f : Int) :
    (s.newF p f).siteTime = s.siteTime ∧
    (s.newF p f).loaded = s.loaded ∧
    (s.newF p f).par = s.par ∧
    (s.newF p f).scu = s.scu ∧
    (s.newF p f).mcs = s.mcs ∧
    (s.newF p f).apu = s.apu ∧
    (s.newF p f).vau = s.vau ∧
    (s.newF p f).vrt = s.vrt ∧
    (s.newF p f).cls = s.cls ∧
    (s.newF p f).shu = s.shu ∧
    (s.newF p f).cst = s.cst ∧
    (s.newF p f).cpt = s.cpt ∧
    (s.newF p f).pending = s.pending := by
  simp [State.newF]

@[simp] theorem State.readUnknown_frame (s : State) (p : Probe) (r : Int) :
    (s.readUnknown p r).siteTime = s.siteTime ∧
    (s.readUnknown p r).loaded = s.loaded ∧
    (s.readUnknown p r).par = s.par ∧
    (s.readUnknown p r).scu = s.scu ∧
    (s.readUnknown p r).mcs = s.mcs ∧
    (s.readUnknown p r).apu = s.apu ∧
    (s.readUnknown p r).vau = s.vau ∧
    (s.readUnknown p r).vrt = s.vrt ∧
    (s.readUnknown p r).cls = s.cls ∧
    (s.readUnknown p r).shu = s.shu ∧
    (s.readUnknown p r).cst = s.cst ∧
    (s.readUnknown p r).cpt = s.cpt ∧
    (s.readUnknown p r).pending = s.pending := by
  simp only [State.readUnknown]
  repeat' split
  all_goals simp

@[simp] theorem State.readValid_frame (s : State) (p : Probe) (r : Int) :
    (s.readValid p r).siteTime = s.siteTime ∧
    (s.readValid p r).loaded = s.loaded ∧
    (s.readValid p r).par = s.par ∧
    (s.readValid p r).scu = s.scu ∧
    (s.readValid p r).mcs = s.mcs ∧
    (s.readValid p r).apu = s.apu ∧
    (s.readValid p r).vau = s.vau ∧
    (s.readValid p r).vrt = s.vrt ∧
    (s.readValid p r).cls = s.cls ∧
    (s.readValid p r).shu = s.shu ∧
    (s.readValid p r).cst = s.cst ∧
    (s.readValid p r).cpt = s.cpt ∧
    (s.readValid p r).pending = s.pending := by
  simp only [State.readValid]
  repeat' split
  all_goals simp

@[simp] theorem State.readFault_frame (s : State) (p : Probe) (r : Int) :
    (s.readFault p r).siteTime = s.siteTime ∧
    (s.readFault p r).loaded = s.loaded ∧
    (s.readFault p r).par = s.par ∧
    (s.readFault p r).scu = s.scu ∧
    (s.readFault p r).mcs = s.mcs ∧
    (s.readFault p r).apu = s.apu ∧
    (s.readFault p r).vau = s.vau ∧
    (s.readFault p r).vrt = s.vrt ∧
    (s.readFault p r).cls = s.cls ∧
    (s.readFault p r).shu = s.shu ∧
    (s.readFault p r).cst = s.cst ∧
    (s.readFault p r).cpt = s.cpt ∧
    (s.readFault p r).pending = s.pending := by
  simp only [State.readFault]
  repeat' split
  all_goals simp

@[simp] theorem State.reading_frame (s : State) (p : Probe) (r : Int) :
    (s.reading p r).siteTime = s.siteTime ∧
    (s.reading p r).loaded = s.loaded ∧
    (s.reading p r).par = s.par ∧
    (s.reading p r).scu = s.scu ∧
    (s.reading p r).mcs = s.mcs ∧
    (s.reading p r).apu = s.apu ∧
    (s.reading p r).vau = s.vau ∧
    (s.reading p r).vrt = s.vrt ∧
    (s.reading p r).cls = s.cls ∧
    (s.reading p r).shu = s.shu ∧
    (s.reading p r).cst = s.cst ∧
    (s.reading p r).cpt = s.cpt ∧
    (s.reading p r).pending = s.pending := by
  unfold State.reading
  split <;> simp

@[simp] theorem State.testResult_frame (s : State) (i : Strip) (b : Bool) :
    (s.testResult i b).siteTime = s.siteTime ∧
    (s.testResult i b).loaded = s.loaded ∧
    (s.testResult i b).par = s.par ∧
    (s.testResult i b).ptu = s.ptu ∧
    (s.testResult i b).vau = s.vau ∧
    (s.testResult i b).vrt = s.vrt ∧
    (s.testResult i b).cls = s.cls ∧
    (s.testResult i b).cst = s.cst ∧
    (s.testResult i b).cpt = s.cpt ∧
    (s.testResult i b).pending = s.pending := by
  simp only [State.testResult]
  repeat' split
  all_goals simp

@[simp] theorem State.beginWork_frame (s : State) (c : Choice) :
    (s.beginWork c).siteTime = s.siteTime ∧
    (s.beginWork c).loaded = s.loaded ∧
    (s.beginWork c).par = s.par ∧
    (s.beginWork c).ptu = s.ptu ∧
    (s.beginWork c).apu = s.apu ∧
    (s.beginWork c).vau = s.vau ∧
    (s.beginWork c).vrt = s.vrt ∧
    (s.beginWork c).cls = s.cls ∧
    (s.beginWork c).shu = s.shu ∧
    (s.beginWork c).cst = s.cst ∧
    (s.beginWork c).cpt = s.cpt ∧
    (s.beginWork c).pending = s.pending := by
  unfold State.beginWork State.startCharge
  split <;> simp

@[simp] theorem State.chooseWork_frame (s : State) :
    (s.chooseWork).siteTime = s.siteTime ∧
    (s.chooseWork).loaded = s.loaded ∧
    (s.chooseWork).par = s.par ∧
    (s.chooseWork).ptu = s.ptu ∧
    (s.chooseWork).apu = s.apu ∧
    (s.chooseWork).vau = s.vau ∧
    (s.chooseWork).vrt = s.vrt ∧
    (s.chooseWork).cls = s.cls ∧
    (s.chooseWork).shu = s.shu ∧
    (s.chooseWork).cst = s.cst ∧
    (s.chooseWork).pending = s.pending := by
  simp only [State.chooseWork]
  split <;> simp

@[simp] theorem State.breakSequence_frame (s : State) :
    (s.breakSequence).siteTime = s.siteTime ∧
    (s.breakSequence).loaded = s.loaded ∧
    (s.breakSequence).par = s.par ∧
    (s.breakSequence).ptu = s.ptu ∧
    (s.breakSequence).apu = s.apu ∧
    (s.breakSequence).vau = s.vau ∧
    (s.breakSequence).vrt = s.vrt ∧
    (s.breakSequence).cls = s.cls ∧
    (s.breakSequence).shu = s.shu ∧
    (s.breakSequence).cst = s.cst ∧
    (s.breakSequence).pending = s.pending := by
  simp only [State.breakSequence]
  repeat' split
  all_goals simp

@[simp] theorem State.beginSlot_frame (s : State) :
    (s.beginSlot).siteTime = s.siteTime ∧
    (s.beginSlot).loaded = s.loaded ∧
    (s.beginSlot).par = s.par ∧
    (s.beginSlot).ptu = s.ptu ∧
    (s.beginSlot).apu = s.apu ∧
    (s.beginSlot).vau = s.vau ∧
    (s.beginSlot).vrt = s.vrt ∧
    (s.beginSlot).cls = s.cls ∧
    (s.beginSlot).shu = s.shu ∧
    (s.beginSlot).cst = s.cst ∧
    (s.beginSlot).pending = s.pending := by
  simp [State.beginSlot]

@[simp] theorem State.readCompletion_frame (s : State) (f : Flight) (k : Nat) :
    (s.readCompletion f k).siteTime = s.siteTime ∧
    (s.readCompletion f k).loaded = s.loaded ∧
    (s.readCompletion f k).par = s.par ∧
    (s.readCompletion f k).ptu = s.ptu ∧
    (s.readCompletion f k).vau = s.vau ∧
    (s.readCompletion f k).vrt = s.vrt ∧
    (s.readCompletion f k).cls = s.cls ∧
    (s.readCompletion f k).cst = s.cst ∧
    (s.readCompletion f k).cpt = s.cpt ∧
    (s.readCompletion f k).pending = s.pending := by
  simp [State.readCompletion]

@[simp] theorem State.endWork_frame (s : State) (r : BitVec 16) :
    (s.endWork r).siteTime = s.siteTime ∧
    (s.endWork r).loaded = s.loaded ∧
    (s.endWork r).par = s.par ∧
    (s.endWork r).vau = s.vau ∧
    (s.endWork r).vrt = s.vrt ∧
    (s.endWork r).cls = s.cls ∧
    (s.endWork r).cst = s.cst ∧
    (s.endWork r).cpt = s.cpt ∧
    (s.endWork r).pending = s.pending := by
  simp only [State.endWork]
  repeat' split
  all_goals simp

@[simp] theorem State.closeRecord_frame (s : State) (n : Lane) (k : Nat) :
    (s.closeRecord n k).siteTime = s.siteTime ∧
    (s.closeRecord n k).loaded = s.loaded ∧
    (s.closeRecord n k).par = s.par ∧
    (s.closeRecord n k).scu = s.scu ∧
    (s.closeRecord n k).ptu = s.ptu ∧
    (s.closeRecord n k).mcs = s.mcs ∧
    (s.closeRecord n k).apu = s.apu ∧
    (s.closeRecord n k).cls = s.cls ∧
    (s.closeRecord n k).shu = s.shu ∧
    (s.closeRecord n k).cst = s.cst ∧
    (s.closeRecord n k).cpt = s.cpt ∧
    (s.closeRecord n k).pending = s.pending := by
  simp [State.closeRecord]

@[simp] theorem State.closeVehicle_frame (s : State) (n : Lane) :
    (s.closeVehicle n).siteTime = s.siteTime ∧
    (s.closeVehicle n).loaded = s.loaded ∧
    (s.closeVehicle n).par = s.par ∧
    (s.closeVehicle n).scu = s.scu ∧
    (s.closeVehicle n).ptu = s.ptu ∧
    (s.closeVehicle n).mcs = s.mcs ∧
    (s.closeVehicle n).apu = s.apu ∧
    (s.closeVehicle n).cls = s.cls ∧
    (s.closeVehicle n).shu = s.shu ∧
    (s.closeVehicle n).cst = s.cst ∧
    (s.closeVehicle n).cpt = s.cpt ∧
    (s.closeVehicle n).pending = s.pending := by
  unfold State.closeVehicle
  split <;> simp

@[simp] theorem State.closeIfPassed_frame (s : State) (n : Lane) :
    (s.closeIfPassed n).siteTime = s.siteTime ∧
    (s.closeIfPassed n).loaded = s.loaded ∧
    (s.closeIfPassed n).par = s.par ∧
    (s.closeIfPassed n).scu = s.scu ∧
    (s.closeIfPassed n).ptu = s.ptu ∧
    (s.closeIfPassed n).mcs = s.mcs ∧
    (s.closeIfPassed n).apu = s.apu ∧
    (s.closeIfPassed n).cls = s.cls ∧
    (s.closeIfPassed n).shu = s.shu ∧
    (s.closeIfPassed n).cst = s.cst ∧
    (s.closeIfPassed n).cpt = s.cpt ∧
    (s.closeIfPassed n).pending = s.pending := by
  simp only [State.closeIfPassed]
  repeat' split
  all_goals simp

@[simp] theorem State.appendAxle_frame (s : State) (k : Nat) (a : WeighedAxle) (sp : Nat) :
    (s.appendAxle k a sp).siteTime = s.siteTime ∧
    (s.appendAxle k a sp).loaded = s.loaded ∧
    (s.appendAxle k a sp).par = s.par ∧
    (s.appendAxle k a sp).scu = s.scu ∧
    (s.appendAxle k a sp).ptu = s.ptu ∧
    (s.appendAxle k a sp).mcs = s.mcs ∧
    (s.appendAxle k a sp).apu = s.apu ∧
    (s.appendAxle k a sp).cls = s.cls ∧
    (s.appendAxle k a sp).shu = s.shu ∧
    (s.appendAxle k a sp).cst = s.cst ∧
    (s.appendAxle k a sp).cpt = s.cpt ∧
    (s.appendAxle k a sp).pending = s.pending := by
  simp [State.appendAxle]

@[simp] theorem State.followAxle_frame (s : State) (a : WeighedAxle) :
    (s.followAxle a).siteTime = s.siteTime ∧
    (s.followAxle a).loaded = s.loaded ∧
    (s.followAxle a).par = s.par ∧
    (s.followAxle a).scu = s.scu ∧
    (s.followAxle a).ptu = s.ptu ∧
    (s.followAxle a).mcs = s.mcs ∧
    (s.followAxle a).apu = s.apu ∧
    (s.followAxle a).cls = s.cls ∧
    (s.followAxle a).shu = s.shu ∧
    (s.followAxle a).cst = s.cst ∧
    (s.followAxle a).cpt = s.cpt ∧
    (s.followAxle a).pending = s.pending := by
  simp [State.followAxle]

@[simp] theorem State.evict_frame (s : State) (r : Record) :
    (s.evict r).siteTime = s.siteTime ∧
    (s.evict r).loaded = s.loaded ∧
    (s.evict r).par = s.par ∧
    (s.evict r).scu = s.scu ∧
    (s.evict r).ptu = s.ptu ∧
    (s.evict r).mcs = s.mcs ∧
    (s.evict r).apu = s.apu ∧
    (s.evict r).cls = s.cls ∧
    (s.evict r).shu = s.shu ∧
    (s.evict r).cst = s.cst ∧
    (s.evict r).cpt = s.cpt ∧
    (s.evict r).pending = s.pending := by
  unfold State.evict
  split <;> simp

@[simp] theorem State.openRecord_frame (s : State) (a : WeighedAxle) :
    (s.openRecord a).siteTime = s.siteTime ∧
    (s.openRecord a).loaded = s.loaded ∧
    (s.openRecord a).par = s.par ∧
    (s.openRecord a).scu = s.scu ∧
    (s.openRecord a).ptu = s.ptu ∧
    (s.openRecord a).mcs = s.mcs ∧
    (s.openRecord a).apu = s.apu ∧
    (s.openRecord a).cls = s.cls ∧
    (s.openRecord a).shu = s.shu ∧
    (s.openRecord a).cst = s.cst ∧
    (s.openRecord a).cpt = s.cpt ∧
    (s.openRecord a).pending = s.pending := by
  simp [State.openRecord]

@[simp] theorem State.openUnrecorded_frame (s : State) (a : WeighedAxle) :
    (s.openUnrecorded a).siteTime = s.siteTime ∧
    (s.openUnrecorded a).loaded = s.loaded ∧
    (s.openUnrecorded a).par = s.par ∧
    (s.openUnrecorded a).scu = s.scu ∧
    (s.openUnrecorded a).ptu = s.ptu ∧
    (s.openUnrecorded a).mcs = s.mcs ∧
    (s.openUnrecorded a).apu = s.apu ∧
    (s.openUnrecorded a).cls = s.cls ∧
    (s.openUnrecorded a).shu = s.shu ∧
    (s.openUnrecorded a).cst = s.cst ∧
    (s.openUnrecorded a).pending = s.pending := by
  simp [State.openUnrecorded]

/-- An entry to be had (R109, R110) changes the table and a lane counter only. -/
theorem State.acquire_frame {s t : State} (h : s.acquire = some t) :
    (t).siteTime = s.siteTime ∧
    (t).loaded = s.loaded ∧
    (t).par = s.par ∧
    (t).scu = s.scu ∧
    (t).ptu = s.ptu ∧
    (t).mcs = s.mcs ∧
    (t).apu = s.apu ∧
    (t).cls = s.cls ∧
    (t).shu = s.shu ∧
    (t).cst = s.cst ∧
    (t).cpt = s.cpt ∧
    (t).pending = s.pending := by
  unfold State.acquire at h
  split at h
  · cases h; simp
  · cases hr : s.vrt.evictable with
    | none => simp [hr] at h
    | some r => simp only [hr, Option.map_some, Option.some.injEq] at h; subst h; simp

@[simp] theorem State.openVehicle_frame (s : State) (a : WeighedAxle) :
    (s.openVehicle a).siteTime = s.siteTime ∧
    (s.openVehicle a).loaded = s.loaded ∧
    (s.openVehicle a).par = s.par ∧
    (s.openVehicle a).scu = s.scu ∧
    (s.openVehicle a).ptu = s.ptu ∧
    (s.openVehicle a).mcs = s.mcs ∧
    (s.openVehicle a).apu = s.apu ∧
    (s.openVehicle a).cls = s.cls ∧
    (s.openVehicle a).shu = s.shu ∧
    (s.openVehicle a).cst = s.cst ∧
    (s.openVehicle a).pending = s.pending := by
  unfold State.openVehicle
  split
  · rename_i h; simp [State.acquire_frame h]
  · simp

@[simp] theorem State.closeAndOpen_frame (s : State) (a : WeighedAxle) :
    (s.closeAndOpen a).siteTime = s.siteTime ∧
    (s.closeAndOpen a).loaded = s.loaded ∧
    (s.closeAndOpen a).par = s.par ∧
    (s.closeAndOpen a).scu = s.scu ∧
    (s.closeAndOpen a).ptu = s.ptu ∧
    (s.closeAndOpen a).mcs = s.mcs ∧
    (s.closeAndOpen a).apu = s.apu ∧
    (s.closeAndOpen a).cls = s.cls ∧
    (s.closeAndOpen a).shu = s.shu ∧
    (s.closeAndOpen a).cst = s.cst ∧
    (s.closeAndOpen a).pending = s.pending := by
  simp [State.closeAndOpen]

@[simp] theorem State.axleArrival_frame (s : State) (a : WeighedAxle) :
    (s.axleArrival a).siteTime = s.siteTime ∧
    (s.axleArrival a).loaded = s.loaded ∧
    (s.axleArrival a).par = s.par ∧
    (s.axleArrival a).scu = s.scu ∧
    (s.axleArrival a).ptu = s.ptu ∧
    (s.axleArrival a).mcs = s.mcs ∧
    (s.axleArrival a).apu = s.apu ∧
    (s.axleArrival a).cls = s.cls ∧
    (s.axleArrival a).shu = s.shu ∧
    (s.axleArrival a).cst = s.cst ∧
    (s.axleArrival a).pending = s.pending := by
  simp only [State.axleArrival]
  repeat' split
  all_goals simp

@[simp] theorem State.handOver_frame (s : State) (c : Candidate) :
    (s.handOver c).siteTime = s.siteTime ∧
    (s.handOver c).loaded = s.loaded ∧
    (s.handOver c).par = s.par ∧
    (s.handOver c).scu = s.scu ∧
    (s.handOver c).ptu = s.ptu ∧
    (s.handOver c).mcs = s.mcs ∧
    (s.handOver c).apu = s.apu ∧
    (s.handOver c).cls = s.cls ∧
    (s.handOver c).shu = s.shu ∧
    (s.handOver c).cst = s.cst ∧
    (s.handOver c).pending = s.pending := by
  simp [State.handOver]

@[simp] theorem State.rowMisses_frame (s : State) (n : Lane) (r : Row) (h : RowHit) (t : Time) :
    (s.rowMisses n r h t).siteTime = s.siteTime ∧
    (s.rowMisses n r h t).loaded = s.loaded ∧
    (s.rowMisses n r h t).par = s.par ∧
    (s.rowMisses n r h t).ptu = s.ptu ∧
    (s.rowMisses n r h t).vau = s.vau ∧
    (s.rowMisses n r h t).vrt = s.vrt ∧
    (s.rowMisses n r h t).cls = s.cls ∧
    (s.rowMisses n r h t).cst = s.cst ∧
    (s.rowMisses n r h t).cpt = s.cpt ∧
    (s.rowMisses n r h t).pending = s.pending := by
  unfold State.rowMisses
  split <;> simp

@[simp] theorem State.upstreamOnly_frame (s : State) (n : Lane) (e : QueueEntry) :
    (s.upstreamOnly n e).siteTime = s.siteTime ∧
    (s.upstreamOnly n e).loaded = s.loaded ∧
    (s.upstreamOnly n e).par = s.par ∧
    (s.upstreamOnly n e).ptu = s.ptu ∧
    (s.upstreamOnly n e).cls = s.cls ∧
    (s.upstreamOnly n e).cst = s.cst ∧
    (s.upstreamOnly n e).pending = s.pending := by
  simp only [State.upstreamOnly]
  split <;> simp

@[simp] theorem State.downstreamOnly_frame (s : State) (n : Lane) (d : RowHit) :
    (s.downstreamOnly n d).siteTime = s.siteTime ∧
    (s.downstreamOnly n d).loaded = s.loaded ∧
    (s.downstreamOnly n d).par = s.par ∧
    (s.downstreamOnly n d).ptu = s.ptu ∧
    (s.downstreamOnly n d).cls = s.cls ∧
    (s.downstreamOnly n d).cst = s.cst ∧
    (s.downstreamOnly n d).pending = s.pending := by
  simp only [State.downstreamOnly]
  split <;> simp

@[simp] theorem State.enterQueue_frame (s : State) (h : RowHit) :
    (s.enterQueue h).siteTime = s.siteTime ∧
    (s.enterQueue h).loaded = s.loaded ∧
    (s.enterQueue h).par = s.par ∧
    (s.enterQueue h).ptu = s.ptu ∧
    (s.enterQueue h).cls = s.cls ∧
    (s.enterQueue h).cst = s.cst ∧
    (s.enterQueue h).pending = s.pending := by
  simp only [State.enterQueue]
  repeat' split
  all_goals simp

/-- The entries ahead of a match resolve one after another (R75). -/
theorem State.upstreamFold_frame (l : List QueueEntry) (n : Lane) (s : State) :
    (l.foldl (fun s a => s.upstreamOnly n a) s).siteTime = s.siteTime ∧
    (l.foldl (fun s a => s.upstreamOnly n a) s).loaded = s.loaded ∧
    (l.foldl (fun s a => s.upstreamOnly n a) s).par = s.par ∧
    (l.foldl (fun s a => s.upstreamOnly n a) s).ptu = s.ptu ∧
    (l.foldl (fun s a => s.upstreamOnly n a) s).cls = s.cls ∧
    (l.foldl (fun s a => s.upstreamOnly n a) s).cst = s.cst ∧
    (l.foldl (fun s a => s.upstreamOnly n a) s).pending = s.pending := by
  induction l generalizing s with
  | nil => simp
  | cons a l ih => simpa using ih (s.upstreamOnly n a)

@[simp] theorem State.matchDownstream_frame (s : State) (d : RowHit) :
    (s.matchDownstream d).siteTime = s.siteTime ∧
    (s.matchDownstream d).loaded = s.loaded ∧
    (s.matchDownstream d).par = s.par ∧
    (s.matchDownstream d).ptu = s.ptu ∧
    (s.matchDownstream d).cls = s.cls ∧
    (s.matchDownstream d).cst = s.cst ∧
    (s.matchDownstream d).pending = s.pending := by
  simp only [State.matchDownstream]
  split <;> simp [State.upstreamFold_frame]

@[simp] theorem State.routeHit_frame (s : State) (h : RowHit) :
    (s.routeHit h).siteTime = s.siteTime ∧
    (s.routeHit h).loaded = s.loaded ∧
    (s.routeHit h).par = s.par ∧
    (s.routeHit h).ptu = s.ptu ∧
    (s.routeHit h).cls = s.cls ∧
    (s.routeHit h).cst = s.cst ∧
    (s.routeHit h).pending = s.pending := by
  unfold State.routeHit
  split <;> simp

@[simp] theorem State.pairHit_frame (s : State) (a b : PulseRecord) (h : RowHit) :
    (s.pairHit a b h).siteTime = s.siteTime ∧
    (s.pairHit a b h).loaded = s.loaded ∧
    (s.pairHit a b h).par = s.par ∧
    (s.pairHit a b h).ptu = s.ptu ∧
    (s.pairHit a b h).cls = s.cls ∧
    (s.pairHit a b h).cst = s.cst ∧
    (s.pairHit a b h).pending = s.pending := by
  simp [State.pairHit]

@[simp] theorem State.halfHit_frame (s : State) (r : PulseRecord) :
    (s.halfHit r).siteTime = s.siteTime ∧
    (s.halfHit r).loaded = s.loaded ∧
    (s.halfHit r).par = s.par ∧
    (s.halfHit r).ptu = s.ptu ∧
    (s.halfHit r).cls = s.cls ∧
    (s.halfHit r).cst = s.cst ∧
    (s.halfHit r).pending = s.pending := by
  simp only [State.halfHit]
  split <;> simp

@[simp] theorem State.resolveLone_frame (s : State) (r : PulseRecord) :
    (s.resolveLone r).siteTime = s.siteTime ∧
    (s.resolveLone r).loaded = s.loaded ∧
    (s.resolveLone r).par = s.par ∧
    (s.resolveLone r).ptu = s.ptu ∧
    (s.resolveLone r).cls = s.cls ∧
    (s.resolveLone r).cst = s.cst ∧
    (s.resolveLone r).pending = s.pending := by
  simp only [State.resolveLone]
  repeat' split
  all_goals simp

@[simp] theorem State.waitSide_frame (s : State) (r : PulseRecord) :
    (s.waitSide r).siteTime = s.siteTime ∧
    (s.waitSide r).loaded = s.loaded ∧
    (s.waitSide r).par = s.par ∧
    (s.waitSide r).ptu = s.ptu ∧
    (s.waitSide r).cls = s.cls ∧
    (s.waitSide r).cst = s.cst ∧
    (s.waitSide r).pending = s.pending := by
  simp only [State.waitSide]
  repeat' split
  all_goals simp

@[simp] theorem State.pulseArrives_frame (s : State) (r : PulseRecord) :
    (s.pulseArrives r).siteTime = s.siteTime ∧
    (s.pulseArrives r).loaded = s.loaded ∧
    (s.pulseArrives r).par = s.par ∧
    (s.pulseArrives r).ptu = s.ptu ∧
    (s.pulseArrives r).cls = s.cls ∧
    (s.pulseArrives r).cst = s.cst ∧
    (s.pulseArrives r).pending = s.pending := by
  simp only [State.pulseArrives]
  split <;> simp

@[simp] theorem State.disable_frame (s : State) (i : Strip) :
    (s.disable i).siteTime = s.siteTime ∧
    (s.disable i).loaded = s.loaded ∧
    (s.disable i).par = s.par ∧
    (s.disable i).ptu = s.ptu ∧
    (s.disable i).mcs = s.mcs ∧
    (s.disable i).vau = s.vau ∧
    (s.disable i).vrt = s.vrt ∧
    (s.disable i).cls = s.cls ∧
    (s.disable i).cst = s.cst ∧
    (s.disable i).cpt = s.cpt ∧
    (s.disable i).pending = s.pending := by
  simp [State.disable]

@[simp] theorem State.enable_frame (s : State) (i : Strip) :
    (s.enable i).siteTime = s.siteTime ∧
    (s.enable i).loaded = s.loaded ∧
    (s.enable i).par = s.par ∧
    (s.enable i).ptu = s.ptu ∧
    (s.enable i).mcs = s.mcs ∧
    (s.enable i).apu = s.apu ∧
    (s.enable i).vau = s.vau ∧
    (s.enable i).vrt = s.vrt ∧
    (s.enable i).cls = s.cls ∧
    (s.enable i).cst = s.cst ∧
    (s.enable i).cpt = s.cpt ∧
    (s.enable i).pending = s.pending := by
  simp [State.enable]

@[simp] theorem State.dropTests_frame (s : State) :
    (s.dropTests).siteTime = s.siteTime ∧
    (s.dropTests).loaded = s.loaded ∧
    (s.dropTests).par = s.par ∧
    (s.dropTests).ptu = s.ptu ∧
    (s.dropTests).apu = s.apu ∧
    (s.dropTests).vau = s.vau ∧
    (s.dropTests).vrt = s.vrt ∧
    (s.dropTests).cls = s.cls ∧
    (s.dropTests).shu = s.shu ∧
    (s.dropTests).cst = s.cst ∧
    (s.dropTests).cpt = s.cpt ∧
    (s.dropTests).pending = s.pending := by
  unfold State.dropTests
  split <;> simp

@[simp] theorem State.clearStripCounters_frame (s : State) (i : Strip) :
    (s.clearStripCounters i).siteTime = s.siteTime ∧
    (s.clearStripCounters i).loaded = s.loaded ∧
    (s.clearStripCounters i).par = s.par ∧
    (s.clearStripCounters i).ptu = s.ptu ∧
    (s.clearStripCounters i).apu = s.apu ∧
    (s.clearStripCounters i).vau = s.vau ∧
    (s.clearStripCounters i).vrt = s.vrt ∧
    (s.clearStripCounters i).cls = s.cls ∧
    (s.clearStripCounters i).cst = s.cst ∧
    (s.clearStripCounters i).cpt = s.cpt ∧
    (s.clearStripCounters i).pending = s.pending := by
  simp [State.clearStripCounters]

@[simp] theorem State.clearLaneCounters_frame (s : State) (n : Lane) :
    (s.clearLaneCounters n).siteTime = s.siteTime ∧
    (s.clearLaneCounters n).loaded = s.loaded ∧
    (s.clearLaneCounters n).par = s.par ∧
    (s.clearLaneCounters n).scu = s.scu ∧
    (s.clearLaneCounters n).ptu = s.ptu ∧
    (s.clearLaneCounters n).mcs = s.mcs ∧
    (s.clearLaneCounters n).vrt = s.vrt ∧
    (s.clearLaneCounters n).cls = s.cls ∧
    (s.clearLaneCounters n).shu = s.shu ∧
    (s.clearLaneCounters n).cst = s.cst ∧
    (s.clearLaneCounters n).cpt = s.cpt ∧
    (s.clearLaneCounters n).pending = s.pending := by
  simp [State.clearLaneCounters]

/-! ### A store that a device reset cuts off (R184) -/

/-- Everything a cut store can leave: nothing new without a store in flight, the spare slot rewritten under the old record, or,
once the completion was due, the record that the completion writes. -/
theorem State.cutStore_cases (s : State) (c : StoreCut) :
    (s.cst.store = none ∧ s.cutStore c = s.cst.nv) ∨
    (∃ bytes, s.cutStore c = s.cst.nv.writeSpare bytes) ∨
    (s.storeDue = true ∧ ∃ readBack, c = .recordWritten readBack ∧
      s.cutStore c = s.cst.nv.stored readBack s.cst.staging.crc) := by
  cases h : s.cst.store with
  | none => exact .inl ⟨rfl, by simp [State.cutStore, h]⟩
  | some t =>
    cases c with
    | recordAsItWas bytes => exact .inr (.inl ⟨bytes, by simp [State.cutStore, h]⟩)
    | recordWritten readBack =>
      cases hd : s.storeDue with
      | true => exact .inr (.inr ⟨rfl, readBack, rfl, by simp [State.cutStore, h, hd]⟩)
      | false => exact .inr (.inl ⟨_, by simp [State.cutStore, h, hd]; rfl⟩)

/-- Rewriting the spare slot leaves the slot record and the current image. -/
theorem Nonvolatile.writeSpare_record (v : Nonvolatile) (bytes : List Byte) :
    (v.writeSpare bytes).current1 = v.current1 ∧ (v.writeSpare bytes).counter = v.counter ∧
    (v.writeSpare bytes).failMark = v.failMark ∧ (v.writeSpare bytes).current = v.current := by
  cases h : v.current1 <;> simp [Nonvolatile.writeSpare, Nonvolatile.current, h]

end Sys2Proof.Machine
end

