-- ==== Sys2Proof/Laws/PerInstr.lean ====
section
/-! SUPPORT. The statements made per command: the code and the payload that a host command sends name that command again (R204,
R207). -/

namespace Sys2Proof.Laws

/-- The code and payload of a well-formed host command are read as that command; an event that is no transaction sends none. -/
def Named.Statement (i : Instr) : Prop :=
  i.wf = true → ∀ x code p, i.frameParts = some (x, code, p) → commandOf x code p = some i

theorem Named.sample (j : Strip) (code : BitVec 16) : Named.Statement (.sample j code) := by
  intro _ x code p h; cases h

theorem Named.normalEnd (j : Strip) (code : BitVec 16) : Named.Statement (.normalEnd j code) := by
  intro _ x code p h; cases h

theorem Named.longCut (j : Strip) (code : BitVec 16) : Named.Statement (.longCut j code) := by
  intro _ x code p h; cases h

theorem Named.standingEnd (j : Strip) (code : BitVec 16) : Named.Statement (.standingEnd j code) := by
  intro _ x code p h; cases h

theorem Named.settlingEnd (j : Strip) (code : BitVec 16) : Named.Statement (.settlingEnd j code) := by
  intro _ x code p h; cases h

theorem Named.autoZeroStep (j : Strip) : Named.Statement (.autoZeroStep j) := by
  intro _ x code p h; cases h

theorem Named.pinnedTimerExpiry (j : Strip) : Named.Statement (.pinnedTimerExpiry j) := by
  intro _ x code p h; cases h

theorem Named.standingTimerExpiry (j : Strip) : Named.Statement (.standingTimerExpiry j) := by
  intro _ x code p h; cases h

theorem Named.noiseWindowEnd (j : Strip) : Named.Statement (.noiseWindowEnd j) := by
  intro _ x code p h; cases h

theorem Named.pulseArrival (j : Strip) : Named.Statement (.pulseArrival j) := by
  intro _ x code p h; cases h

theorem Named.loneExpiry (j : Strip) (k : Fin 4) : Named.Statement (.loneExpiry j k) := by
  intro _ x code p h; cases h

theorem Named.entryExpiry (n : Lane) (k : Fin 4) : Named.Statement (.entryExpiry n k) := by
  intro _ x code p h; cases h

theorem Named.closeDeadlineExpiry (n : Lane) : Named.Statement (.closeDeadlineExpiry n) := by
  intro _ x code p h; cases h

theorem Named.slotBoundary (result : BitVec 16) : Named.Statement (.slotBoundary result) := by
  intro _ x code p h; cases h

theorem Named.periodicTimerExpiry (j : Strip) : Named.Statement (.periodicTimerExpiry j) := by
  intro _ x code p h; cases h

theorem Named.holdTimerExpiry (n : Lane) : Named.Statement (.holdTimerExpiry n) := by
  intro _ x code p h; cases h

theorem Named.holdoffExpiry (j : Strip) : Named.Statement (.holdoffExpiry j) := by
  intro _ x code p h; cases h

theorem Named.storeCompletion (readBack : List Byte) : Named.Statement (.storeCompletion readBack) := by
  intro _ x code p h; cases h

theorem Named.switchPositionTaken : Named.Statement (.switchPositionTaken) := by
  intro _ x code p h; cases h

theorem Named.deviceReset (straps : BitVec 2) (cut : StoreCut) : Named.Statement (.deviceReset straps cut) := by
  intro _ x code p h; cases h

theorem Named.loadCompletion : Named.Statement (.loadCompletion) := by
  intro _ x code p h; cases h

theorem Named.unknownCmd (bytes : List Byte) : Named.Statement (.unknownCmd bytes) := by
  intro _ x code p h; cases h

theorem Named.nop (y : Xfer) (payload : List Byte) : Named.Statement (.nop y payload) := by
  intro hw x code p h
  cases h
  have hp : payload ≠ [0x01] := by
    intro e; subst e; cases hw
  show some (if payload = [0x01] then _ else _) = _
  rw [if_neg hp]

theorem Named.nopRepeat (y : Xfer) : Named.Statement (.nopRepeat y) := by
  intro _ x code p h; cases h; rfl

theorem Named.status (y : Xfer) (payload : List Byte) : Named.Statement (.status y payload) := by
  intro _ x code p h; cases h; rfl

theorem Named.paramRead (y : Xfer) (payload : List Byte) : Named.Statement (.paramRead y payload) := by
  intro _ x code p h; cases h; rfl

theorem Named.tOn (y : Xfer) (rest : List Byte) : Named.Statement (.tOn y rest) := by
  intro _ x code p h; cases h; rfl

theorem Named.tOff (y : Xfer) (rest : List Byte) : Named.Statement (.tOff y rest) := by
  intro _ x code p h; cases h; rfl

theorem Named.nb (y : Xfer) (rest : List Byte) : Named.Statement (.nb y rest) := by
  intro _ x code p h; cases h; rfl

theorem Named.noiseLim (y : Xfer) (rest : List Byte) : Named.Statement (.noiseLim y rest) := by
  intro _ x code p h; cases h; rfl

theorem Named.azl (y : Xfer) (rest : List Byte) : Named.Statement (.azl y rest) := by
  intro _ x code p h; cases h; rfl

theorem Named.azTol (y : Xfer) (rest : List Byte) : Named.Statement (.azTol y rest) := by
  intro _ x code p h; cases h; rfl

theorem Named.azStep (y : Xfer) (rest : List Byte) : Named.Statement (.azStep y rest) := by
  intro _ x code p h; cases h; rfl

theorem Named.enable (y : Xfer) (rest : List Byte) : Named.Statement (.enable y rest) := by
  intro _ x code p h; cases h; rfl

theorem Named.wLr (y : Xfer) (rest : List Byte) : Named.Statement (.wLr y rest) := by
  intro _ x code p h; cases h; rfl

theorem Named.straddleEn (y : Xfer) (rest : List Byte) : Named.Statement (.straddleEn y rest) := by
  intro _ x code p h; cases h; rfl

theorem Named.spdtol (y : Xfer) (rest : List Byte) : Named.Statement (.spdtol y rest) := by
  intro _ x code p h; cases h; rfl

theorem Named.maxsp (y : Xfer) (rest : List Byte) : Named.Statement (.maxsp y rest) := by
  intro _ x code p h; cases h; rfl

theorem Named.maxclose (y : Xfer) (rest : List Byte) : Named.Statement (.maxclose y rest) := by
  intro _ x code p h; cases h; rfl

theorem Named.grp (y : Xfer) (rest : List Byte) : Named.Statement (.grp y rest) := by
  intro _ x code p h; cases h; rfl

theorem Named.rdt (y : Xfer) (rest : List Byte) : Named.Statement (.rdt y rest) := by
  intro _ x code p h; cases h; rfl

theorem Named.probeMap (y : Xfer) (rest : List Byte) : Named.Statement (.probeMap y rest) := by
  intro _ x code p h; cases h; rfl

theorem Named.probeEn (y : Xfer) (rest : List Byte) : Named.Statement (.probeEn y rest) := by
  intro _ x code p h; cases h; rfl

theorem Named.tempHold (y : Xfer) (rest : List Byte) : Named.Statement (.tempHold y rest) := by
  intro _ x code p h; cases h; rfl

theorem Named.hotTo (y : Xfer) (rest : List Byte) : Named.Statement (.hotTo y rest) := by
  intro _ x code p h; cases h; rfl

theorem Named.hotTh (y : Xfer) (rest : List Byte) : Named.Statement (.hotTh y rest) := by
  intro _ x code p h; cases h; rfl

theorem Named.hotMode (y : Xfer) (rest : List Byte) : Named.Statement (.hotMode y rest) := by
  intro _ x code p h; cases h; rfl

theorem Named.coldTo (y : Xfer) (rest : List Byte) : Named.Statement (.coldTo y rest) := by
  intro _ x code p h; cases h; rfl

theorem Named.coldTh (y : Xfer) (rest : List Byte) : Named.Statement (.coldTh y rest) := by
  intro _ x code p h; cases h; rfl

theorem Named.coldMode (y : Xfer) (rest : List Byte) : Named.Statement (.coldMode y rest) := by
  intro _ x code p h; cases h; rfl

theorem Named.slotLen (n : Fin 4) (y : Xfer) (rest : List Byte) : Named.Statement (.slotLen n y rest) := by
  intro _ x code p h; cases h; fin_cases n <;> rfl

theorem Named.slotRule (n : Fin 4) (y : Xfer) (rest : List Byte) : Named.Statement (.slotRule n y rest) := by
  intro _ x code p h; cases h; fin_cases n <;> rfl

theorem Named.testLimit (y : Xfer) (rest : List Byte) : Named.Statement (.testLimit y rest) := by
  intro _ x code p h; cases h; rfl

theorem Named.testPeriod (y : Xfer) (rest : List Byte) : Named.Statement (.testPeriod y rest) := by
  intro _ x code p h; cases h; rfl

theorem Named.missLim (y : Xfer) (rest : List Byte) : Named.Statement (.missLim y rest) := by
  intro _ x code p h; cases h; rfl

theorem Named.holdoff (y : Xfer) (rest : List Byte) : Named.Statement (.holdoff y rest) := by
  intro _ x code p h; cases h; rfl

theorem Named.attnMask (y : Xfer) (rest : List Byte) : Named.Statement (.attnMask y rest) := by
  intro _ x code p h; cases h; rfl

theorem Named.counterRead (y : Xfer) (payload : List Byte) : Named.Statement (.counterRead y payload) := by
  intro _ x code p h; cases h; rfl

theorem Named.sync (y : Xfer) (payload : List Byte) : Named.Statement (.sync y payload) := by
  intro _ x code p h; cases h; rfl

theorem Named.syncRead (y : Xfer) (payload : List Byte) : Named.Statement (.syncRead y payload) := by
  intro _ x code p h; cases h; rfl

theorem Named.trafficReset (y : Xfer) (payload : List Byte) : Named.Statement (.trafficReset y payload) := by
  intro _ x code p h; cases h; rfl

theorem Named.recList (y : Xfer) (payload : List Byte) : Named.Statement (.recList y payload) := by
  intro _ x code p h; cases h; rfl

theorem Named.recHead (y : Xfer) (payload : List Byte) : Named.Statement (.recHead y payload) := by
  intro _ x code p h; cases h; rfl

theorem Named.recAxles (y : Xfer) (payload : List Byte) : Named.Statement (.recAxles y payload) := by
  intro _ x code p h; cases h; rfl

theorem Named.recHold (y : Xfer) (payload : List Byte) : Named.Statement (.recHold y payload) := by
  intro _ x code p h; cases h; rfl

theorem Named.recRelease (y : Xfer) (payload : List Byte) : Named.Statement (.recRelease y payload) := by
  intro _ x code p h; cases h; rfl

theorem Named.recTag (y : Xfer) (payload : List Byte) : Named.Statement (.recTag y payload) := by
  intro _ x code p h; cases h; rfl

theorem Named.recClose (y : Xfer) (payload : List Byte) : Named.Statement (.recClose y payload) := by
  intro _ x code p h; cases h; rfl

theorem Named.recRetire (y : Xfer) (payload : List Byte) : Named.Statement (.recRetire y payload) := by
  intro _ x code p h; cases h; rfl

theorem Named.recReclass (y : Xfer) (payload : List Byte) : Named.Statement (.recReclass y payload) := by
  intro _ x code p h; cases h; rfl

theorem Named.recMerge (y : Xfer) (payload : List Byte) : Named.Statement (.recMerge y payload) := by
  intro _ x code p h; cases h; rfl

theorem Named.recSplit (y : Xfer) (payload : List Byte) : Named.Statement (.recSplit y payload) := by
  intro _ x code p h; cases h; rfl

theorem Named.classWrite (y : Xfer) (payload : List Byte) : Named.Statement (.classWrite y payload) := by
  intro _ x code p h; cases h; rfl

theorem Named.classClear (y : Xfer) (payload : List Byte) : Named.Statement (.classClear y payload) := by
  intro _ x code p h; cases h; rfl

theorem Named.classRead (y : Xfer) (payload : List Byte) : Named.Statement (.classRead y payload) := by
  intro _ x code p h; cases h; rfl

theorem Named.classSwap (y : Xfer) (payload : List Byte) : Named.Statement (.classSwap y payload) := by
  intro _ x code p h; cases h; rfl

theorem Named.stripRemove (y : Xfer) (payload : List Byte) : Named.Statement (.stripRemove y payload) := by
  intro _ x code p h; cases h; rfl

theorem Named.stripRestore (y : Xfer) (payload : List Byte) : Named.Statement (.stripRestore y payload) := by
  intro _ x code p h; cases h; rfl

theorem Named.stripTest (y : Xfer) (payload : List Byte) : Named.Statement (.stripTest y payload) := by
  intro _ x code p h; cases h; rfl

theorem Named.stripStatus (y : Xfer) (payload : List Byte) : Named.Statement (.stripStatus y payload) := by
  intro _ x code p h; cases h; rfl

theorem Named.tempStatus (y : Xfer) (payload : List Byte) : Named.Statement (.tempStatus y payload) := by
  intro _ x code p h; cases h; rfl

theorem Named.calWrite (y : Xfer) (payload : List Byte) : Named.Statement (.calWrite y payload) := by
  intro _ x code p h; cases h; rfl

theorem Named.calLoad (y : Xfer) (payload : List Byte) : Named.Statement (.calLoad y payload) := by
  intro _ x code p h; cases h; rfl

theorem Named.calRead (y : Xfer) (payload : List Byte) : Named.Statement (.calRead y payload) := by
  intro _ x code p h; cases h; rfl

theorem Named.calCommit (y : Xfer) (payload : List Byte) : Named.Statement (.calCommit y payload) := by
  intro _ x code p h; cases h; rfl

theorem Named.trimSet (y : Xfer) (payload : List Byte) : Named.Statement (.trimSet y payload) := by
  intro _ x code p h; cases h; rfl

theorem Named.trimStep (y : Xfer) (payload : List Byte) : Named.Statement (.trimStep y payload) := by
  intro _ x code p h; cases h; rfl

theorem Named.calswInputChange (closed : Bool) : Named.Statement (.calswInputChange closed) := by
  intro _ x code p h; cases h

end Sys2Proof.Laws
end

