-- ==== Sys2Proof/Laws/Port.lean ====
section
/-! SUPPORT. Payload fields read back, and everything that the shared operations of the command port can do: `hostCommand`,
`paramWrite`, `recordCommand`, `stripCommand`, `whenUnlocked`. -/

namespace Sys2Proof.Machine

/-! ### Payload fields -/

theorem byte_toNat (n : Nat) : (byte n).toNat = n % 256 := by simp [byte]

/-- A byte of a payload behind a first byte. -/
theorem u8_cons (b : Byte) (p : List Byte) (k : Nat) : u8 (b :: p) (k + 1) = u8 p k := by simp [u8]

@[simp] theorem u8_head (b : Byte) (p : List Byte) : u8 (b :: p) 0 = b.toNat := by simp [u8]

/-- A 16-bit number written most significant byte first reads back. -/
theorem u16_bytes2 (n : Nat) (h : n < 65536) (p : List Byte) : u16 (bytes2 n ++ p) 0 = n := by
  simp [u16, u8, bytes2, byte]
  omega

/-- A 32-bit number written most significant byte first reads back. -/
theorem u32_bytes4 (n : Nat) (h : n < 4294967296) (p : List Byte) : u32 (bytes4 n ++ p) 0 = n := by
  simp [u32, u16, u8, bytes4, byte]
  omega

/-- The value field of a PARAM_WRITE payload reads back (R207). -/
theorem s32_written (k : Nat) (v : BitVec 32) : s32 (written k v) 1 = v.toInt := by
  have h := u32_bytes4 v.toNat v.isLt []
  have e : u32 (written k v) 1 = u32 (bytes4 v.toNat ++ []) 0 := by
    simp [written, u32, u16, u8]
  rw [s32, e, h]
  simp

@[simp] theorem u8_written (k : Nat) (v : BitVec 32) : u8 (written k v) 0 = k % 256 := by
  simp [written, byte_toNat]

@[simp] theorem written_length (k : Nat) (v : BitVec 32) : (written k v).length = 5 := by
  simp [written, bytes4]

/-! ### Numbers -/

theorem clamp_bounds {lo hi : Int} (h : lo ≤ hi) (x : Int) : lo ≤ clamp lo hi x ∧ clamp lo hi x ≤ hi := by
  simp only [clamp]
  omega

theorem clamp_of_mem {lo hi x : Int} (h : lo ≤ x) (h' : x ≤ hi) : clamp lo hi x = x := by
  simp only [clamp]
  omega

theorem clampNat_bounds {lo hi : Nat} (h : lo ≤ hi) (v : Int) : lo ≤ clampNat lo hi v ∧ clampNat lo hi v ≤ hi := by
  have := clamp_bounds (Int.ofNat_le.mpr h) v
  simp only [clampNat]
  omega

theorem bump_le (n : Nat) : bump n ≤ 65535 := by
  simp only [bump]
  omega


/-! ### Host commands (R202, R203) -/

/-- An addressed command: the reply of its own rule becomes the pending response. -/
theorem hostCommand_addressed (code : Byte) (mb : Bool) (x : Xfer) (p : List Byte) (run : State → Reply × State) (s : State)
    (h : s.taker x.addr = .addressed) :
    hostCommand code mb x p run s = (run (s.drive (xferBytes x p))).2.respond code (run (s.drive (xferBytes x p))).1 := by
  simp [hostCommand, h, xferBytes]

/-- A broadcast command acts without a response, or not at all. -/
theorem hostCommand_broadcast (code : Byte) (mb : Bool) (x : Xfer) (p : List Byte) (run : State → Reply × State) (s : State)
    (h : s.taker x.addr = .broadcast) :
    hostCommand code mb x p run s = if mb then (run s.release).2 else s.release := by
  simp [hostCommand, h]

/-- A transaction for no node. -/
theorem hostCommand_nobody (code : Byte) (mb : Bool) (x : Xfer) (p : List Byte) (run : State → Reply × State) (s : State)
    (h : s.taker x.addr = .nobody) : hostCommand code mb x p run s = s.release := by
  simp [hostCommand, h]

/-- All that a PARAM_WRITE can do: it is refused and changes nothing, or its owner applies the value (R207). -/
theorem paramWrite_cases (p : Param) (apply : Applier) (rest : List Byte) (s : State) :
    (∃ st, paramWrite p apply rest s = refuse st s ∧ (st = .badValue ∨ st = .laneBusy)) ∨
    ∃ t, rest.length = 5 ∧ u8 rest 0 < (paramScope p).size ∧ s.quietFor (paramScope p) (u8 rest 0) = true ∧
      apply (u8 rest 0) (s32 rest 1) s = some t ∧
      paramWrite p apply rest s = accept (p.id :: byte (u8 rest 0) :: signed4 (t.paramValue p (u8 rest 0))) t := by
  by_cases h1 : rest.length ≠ 5 ∨ (paramScope p).size ≤ u8 rest 0
  · exact .inl ⟨.badValue, by simp only [paramWrite, if_pos h1], .inl rfl⟩
  by_cases h2 : s.quietFor (paramScope p) (u8 rest 0) = true
  · cases h3 : apply (u8 rest 0) (s32 rest 1) s with
    | none => exact .inl ⟨.badValue, by simp [paramWrite, h1, h2, h3], .inl rfl⟩
    | some t =>
      have h4 : rest.length = 5 := by omega
      exact .inr ⟨t, h4, by omega, h2, rfl, by simp [paramWrite, h1, h2, h3]⟩
  · exact .inl ⟨.laneBusy, by simp [paramWrite, h1, h2], .inr rfl⟩

/-- All that a command on one record can do: BAD_VALUE, NO_RECORD, or its rule on the record found (R131). -/
theorem recordCommand_cases (len : Nat) (p : List Byte) (s : State) (run : Record → Reply × State) :
    recordCommand len p s run = refuse .badValue s ∨ recordCommand len p s run = refuse .noRecord s ∨
    ∃ r, p.length = len ∧ s.vrt.find (u16 p 0) = some r ∧ recordCommand len p s run = run r := by
  by_cases h : p.length ≠ len
  · exact .inl (by simp only [recordCommand, if_pos h])
  · have h' : p.length = len := by omega
    cases hr : s.vrt.find (u16 p 0) with
    | none => exact .inr (.inl (by simp [recordCommand, h', hr]))
    | some r => exact .inr (.inr ⟨r, h', rfl, by simp [recordCommand, h', hr]⟩)

/-- All that a strip command can do: BAD_VALUE, or its rule on the strip named (section 9.5). -/
theorem stripCommand_cases (p : List Byte) (s : State) (run : Strip → Reply × State) :
    stripCommand p s run = refuse .badValue s ∨ ∃ i : Strip, stripCommand p s run = run i := by
  simp only [stripCommand]
  repeat' split
  all_goals first | exact .inl rfl | exact .inr ⟨_, rfl⟩

/-- All that a command which changes calibration can do (R186). -/
theorem whenUnlocked_cases (s : State) (run : Reply × State) :
    (s.cst.closed = false ∧ whenUnlocked s run = refuse .calLocked s) ∨
    (s.cst.closed = true ∧ s.cst.store.isSome = true ∧ whenUnlocked s run = refuse .busy s) ∨
    (s.cst.closed = true ∧ s.cst.store = none ∧ whenUnlocked s run = run) := by
  cases h : s.cst.closed
  · exact .inl ⟨rfl, by simp [whenUnlocked, h]⟩
  · cases h2 : s.cst.store with
    | none => exact .inr (.inr ⟨rfl, rfl, by simp [whenUnlocked, h, h2]⟩)
    | some t => exact .inr (.inl ⟨rfl, rfl, by simp [whenUnlocked, h, h2]⟩)

/-- The record that a number finds carries the number and is live (R129). -/
theorem Vrt.find_some {v : Vrt} {n : Nat} {r : Record} (h : v.find n = some r) : r ∈ v.live ∧ r.number = n := by
  have h1 := List.mem_of_find?_eq_some h
  have h2 := List.find?_some h
  exact ⟨h1, by simpa using h2⟩

end Sys2Proof.Machine
end

