-- ==== Sys2Proof/Tests/Slice0.lean ====
section
/-! SUPPORT. Tests: the well-formedness checks, frames whose bytes are written out by hand, the worked figures of the spec, one
step at a time, and for each statement with hypotheses a state and operands that meet them. -/

namespace Sys2Proof.Tests

open Sys2Proof.Machine

/-! ### Helpers -/

/-- The part right after a load completion, with nothing else done. -/
def ready : State := { State.reset with loaded := true }

def atTime (s : State) (t : Time) : State := { s with siteTime := t }

/-- The next state of an outcome; the reset state stands for a stop. -/
def after? (o : Host.Outcome State Fault Refusal) : State :=
  match o with
  | .next t => t
  | _ => State.reset

/-- A transaction to node 0 without filler bytes. -/
def x0 : Xfer := { addr := 0, filler := [] }

/-- A broadcast transaction. -/
def xAll : Xfer := { addr := 0x80, filler := [] }

/-! ### Well-formedness: each check refuses an ill-formed command -/

theorem test_wf_nop_with_01 : (Instr.nop x0 [0x01]).wf = false := by decide

theorem test_wf_unknown_with_sound_bytes : (Instr.unknownCmd [0x01, 0x01, 0x00, 0x55]).wf = false := by decide +kernel

theorem test_wf_store_of_wrong_length : (Instr.storeCompletion [1, 2, 3]).wf = false := by decide

theorem test_wf_cut_spare_of_wrong_length : (Instr.deviceReset 0 (.recordAsItWas [])).wf = false := by decide

theorem test_wf_cut_read_back_of_wrong_length : (Instr.deviceReset 0 (.recordWritten [1])).wf = false := by decide

theorem test_wf_payload_too_long : (Instr.sync x0 (List.replicate 256 0)).wf = false := by decide +kernel

/-! ### Frames (R200, R201, R204, R207) -/

/-- R201: the CRC-8 of the byte 00h is F3h. -/
theorem test_crc8_of_zero : crc8 [0x00] = 0xF3 := by decide

/-- Section 11.3's example: 01h 01h 00h has CRC-8 55h, 01h 00h 00h has 40h. -/
theorem test_crc8_of_the_poll : crc8 [0x01, 0x01, 0x00] = 0x55 ∧ crc8 [0x01, 0x00, 0x00] = 0x40 := by decide +kernel

/-- R183: the digits 1 to 9 give 29B1h, an empty string FFFFh. -/
theorem test_crc16_of_the_digits :
    crc16 [0x31, 0x32, 0x33, 0x34, 0x35, 0x36, 0x37, 0x38, 0x39] = 0x29B1 ∧ crc16 [] = 0xFFFF := by decide +kernel

/-- Section 11.3's example: STATUS to node 1, whole and with its CRC damaged. -/
theorem test_status_frame :
    decodeFrame [0x01, 0x01, 0x00, 0x55, 0xFF, 0xFF] = .status ⟨0x01, [0xFF, 0xFF]⟩ [] ∧
    decodeFrame [0x01, 0x01, 0x00, 0x54] = .unknownCmd [0x01, 0x01, 0x00, 0x54] := by decide +kernel

/-- A PARAM_WRITE is the row of its identifier, another identifier no row. -/
theorem test_param_write_frame :
    decodeFrame (frameBytes x0 0x02 [0x01, 2, 0, 0, 1, 44]) = .tOn x0 [2, 0, 0, 1, 44] ∧
    readFrame (frameBytes x0 0x02 [0x00, 0, 0, 0, 0, 0]) = .bad .param 0x02 := by decide +kernel

/-! ### Worked figures -/

/-- Section 1.5's example, from 1002 to 1004: the pulse starts with area 420 and takes 900 more. -/
theorem test_pulse_takes_its_second_sample :
    let s := (atTime ready 1004).updScu 4 fun u =>
      { u with
        base := 100
        pulse := some { first := 1002, last := 1002, area := 420, clipped := false, pend := [], total := 1, discard := false } }
    (after? (exec (.sample 4 1000) s)).scu[(4 : Strip)].pulse = some
      { first := 1002, last := 1004, area := 1320, clipped := false, pend := [], total := 2, discard := false } := by decide

/-- The same example at 1022: the record with area 3910 and midpoint 1008, the pending 210 left out. -/
theorem test_pulse_ends_with_its_record :
    let s := (atTime ready 1022).updScu 4 fun u =>
      { u with
        base := 100
        pulse := some
          { first := 1002, last := 1014, area := 3910, clipped := false
            pend := [(120, false), (90, false), (0, false)], total := 10, discard := false } }
    (after? (exec (.normalEnd 4 130) s)).apu.transit =
      [{ strip := 4, first := 1002, last := 1014, mid := 1008, area := 3910, clipped := false, long := false }] := by decide

/-- Section 5.8: v = 30,000 and Kt = 5100 at TL 440 between K4 = 5200 and K5 = 5000; with trim +41, K_eff = 5151. -/
theorem test_worked_axle :
    StripCal.gainAt { k := #v[5900, 5700, 5500, 5300, 5200, 5000, 4900, 4800, 4700], z := 0 } 440 = 5100 ∧
    effectiveGain 5100 41 = 5151 ∧ effectiveGain 5100 49 = 5161 := by decide +kernel

/-- R102's spacings of section 6.9 and section 7.8: 384, 96 and 1,563 cm; a later axle with an earlier time gives 65,535. -/
theorem test_spacings :
    spacing 1000000 30000 1002048 30000 = 384 ∧ spacing 1002048 30000 1002560 29800 = 96 ∧
    spacing 5001920 25000 5011920 25000 = 1563 ∧ spacing 1002560 29800 1001790 29800 = 65535 := by decide

/-- R112's table: numbers given past 65534 and 65535 in use. -/
theorem test_record_numbers :
    freeNumber [65534, 65535] 41 65534 = 1 ∧ freeNumber [65535, 1] 41 65535 = 2 ∧ freeNumber [] 41 65535 = 65535 ∧
    nextNumber 65535 = 1 := by decide

/-- Section 6.9: the groups of record 812 with GRP 240. -/
theorem test_groups_of_the_worked_vehicle :
    formGroups 240 [10495, 7980, 7640] [384, 96] = [⟨0, 1, 10495⟩, ⟨1, 2, 15620⟩] := by decide

/-- Section 8.6, rule 2 against record 812, and the same rule against an axle count of 4. -/
theorem test_worked_rule :
    let r : ClassRule := { valid := true, code := 8, axMin := 3, axMax := 3, grossMin := none, grossMax := none
                           straddle := false, windows := [(200, 700), (40, 200)], pattern := some [1, 2] }
    r.matches { count := 3, gross := 26115, straddle := false, spacings := [384, 96], groups := [1, 2] } = true ∧
    r.matches { count := 4, gross := 26115, straddle := false, spacings := [384, 96], groups := [1, 2] } = false := by decide

/-- R195: +508 stepped by +40 gives +511, −509 stepped by −8 gives −512. -/
theorem test_trims_saturate : clampTrim (508 + 40) = 511 ∧ clampTrim (-509 - 8) = -512 := by decide

/-- R6: T_ON lowered to 100 takes T_OFF with it; NB stays at 60. -/
theorem test_lowered_tOn_lowers_tOff :
    let t := after? (exec (.tOn x0 (written 1 100)) ready)
    t.par.lane[(1 : Lane)].tOn = 100 ∧ t.par.lane[(1 : Lane)].tOff = 100 ∧ t.par.lane[(1 : Lane)].nb = 60 := by decide

/-- R36: a HOT unit in TWO_EVENT mode trips above its trip point with an event, and not at it. -/
theorem test_hot_alarm_trips_above_its_trip_point :
    (Alarm.hotEval { trip := 960, hyst := 880, mode := .twoEvent, tripped := false, event := false } 961).event = true ∧
    (Alarm.hotEval { trip := 960, hyst := 880, mode := .twoEvent, tripped := false, event := false } 960).event = false := by
  decide

/-- R202: the first transaction after the load clocks out an empty OK response, FFh behind it. -/
theorem test_first_response_bytes :
    (after? (exec (.nop ⟨0, [0, 0, 0]⟩ []) ready)).cpt.miso = [0x00, 0x00, 0x00, crc8 [0, 0, 0], 0xFF, 0xFF] := by decide +kernel

/-- R168: at a forced re-zero of a strip that is SUSPECT on DRIFT alone the withdrawal comes first, so the strip leaves IN_SERVICE
again with both marks and asks for a new SUSPECT test; it ends with STANDING alone. -/
theorem test_rezero_withdraws_drift_first :
    let s := (ready.updShu 4 fun h => { h with state := .suspect, causes := { h.causes with drift := true } }).updScu 4 fun u =>
      { u with standing := some { endRun := 0, due := 0 }, pinned := true }
    let t := after? (exec (.standingTimerExpiry 4) s)
    t.shu[(4 : Strip)].state = .suspect ∧ t.shu[(4 : Strip)].causes = { Causes.none with standing := true } ∧
    t.shu[(4 : Strip)].leftService = true ∧ t.shu[(4 : Strip)].changed = true ∧
    t.mcs.queue = [⟨4, .suspect, 0, 0⟩] := by decide

set_option maxRecDepth 20000 in
/-- R184, R190: a device reset 479 tu after CAL_COMMIT finds the counter as it was; one at 480 tu may find it raised. -/
theorem test_reset_before_completion_keeps_the_counter :
    let busy (now : Time) : State := { ready with siteTime := now, cst := { ready.cst with store := some 0 } }
    ((busy 479).cutStore (.recordWritten ready.cst.staging.bytes)).counter = 0 ∧
    ((busy 480).cutStore (.recordWritten ready.cst.staging.bytes)).counter = 1 := by decide +kernel

/-! ### Witnesses: a state and operands that meet the hypotheses of each statement, clause by clause where they differ -/

/-- A queue with a command, an empty queue with an event due (site time 2 past an open lone expiry), and one with none. -/
theorem witness_StepRunsTheFrontCommand :
    ({ ready with pending := [.switchPositionTaken] } : State).pending = [.switchPositionTaken] ∧
    State.reset.pending = [] ∧ State.reset.dueEvent = none ∧
    (atTime { ready with cst := { ready.cst with calswDue := some 800 } } 800).dueEvent = some .switchPositionTaken := by
  decide +kernel

theorem witness_EveryCommandAnswersANextState :
    (Instr.sample 0 5).wf = true ∧ (Instr.storeCompletion (List.replicate 336 0)).wf = true ∧
    readFrame [0x01, 0x01, 0x00, 0x55] = .sound (.status ⟨0x01, []⟩ []) := by decide +kernel

theorem witness_TransactionBytesReadBack :
    (Instr.status ⟨0x01, []⟩ []).wf = true ∧
    encodeFrame (.status ⟨0x01, []⟩ []) = some [0x01, 0x01, 0x00, 0x55] := by decide +kernel

/-- Every line of R202's table in turn, then R207's unknown identifier, sent to node 0. -/
theorem witness_UnsoundFrameEarnsItsError :
    ready.taker 0 = .addressed ∧ frameFault [0] .linkLength 0 ∧ frameFault [0, 0x7F] .linkLength 0x7F ∧
    frameFault [0, 0x01, 0] .linkLength 0x01 ∧ frameFault [0, 0x01, 0, 0] .linkCrc 0x01 ∧
    frameFault (frameBytes x0 0x7F []) .unknownCmd 0x7F ∧
    frameFault (frameBytes x0 0x02 []) .badValue 0x02 ∧ frameFault (frameBytes x0 0x02 [0xFF]) .badValue 0x02 :=
  ⟨by decide, ⟨rfl, rfl⟩, ⟨rfl, rfl⟩, ⟨rfl, by decide⟩, ⟨rfl, by decide +kernel⟩, ⟨rfl, by decide +kernel⟩,
    ⟨rfl, by decide +kernel⟩, ⟨rfl, by decide +kernel⟩⟩

theorem witness_UntakenTransactionsChangeNothing :
    (Instr.status x0 []).frameParts = some (x0, 0x01, []) ∧ State.reset.taker 0 = .nobody ∧ ready.taker 0x04 = .nobody ∧
    ready.taker 0x80 = .broadcast ∧ readFrame [0x80, 0x01, 0x00, 0x00] = .bad .crc 0x01 := by decide +kernel

/-- Node 0 is addressed, a broadcast is one, and before the load nobody takes anything. This serves every statement whose only
hypothesis is an addressed transaction. -/
theorem witness_addressed :
    ready.taker 0 = .addressed ∧ ready.taker 0x80 = .broadcast ∧ ready.loaded = true ∧ State.reset.loaded = false := by decide

theorem witness_AddressByteAndResponseBytes :
    ready.loaded = true ∧ State.reset.loaded = false ∧ ready.cpt.resp.payload.length ≤ 255 := by decide

/-- Payloads that NOP refuses: one byte other than 01h, and two bytes. -/
theorem witness_NopAnswersOrRepeats :
    ready.taker 0 = .addressed ∧ ([0x00] : List Byte) ≠ [] ∧ ([0x00] : List Byte) ≠ [0x01] ∧
    ([0x01, 0x01] : List Byte) ≠ [0x01] := by decide

theorem witness_StatusAndSyncAnswer : ready.taker 0 = .addressed ∧ ready.taker xAll.addr = .broadcast := by decide

/-- The highest index of a scope, an index outside it, an unknown identifier and a short payload. -/
theorem witness_ParamAndCounterReadsAnswer :
    ready.taker 0 = .addressed ∧ 15 < (paramScope .enable).size ∧ ([0x01] : List Byte).length ≠ 2 ∧
    (paramScope .tOn).size ≤ 4 ∧ Param.ofId 0x01 = some .tOn ∧ Param.ofId 0x00 = none := by decide

/-- No test in flight, and one in flight. -/
theorem witness_TrafficResetClearsTraffic :
    ready.taker 0 = .addressed ∧ ready.mcs.flight = none ∧
    ({ ready with mcs := { ready.mcs with flight := some ⟨⟨3, .host, 0, 0⟩, .charge⟩ } } : State).mcs.flight.isSome = true ∧
    ({ ready with mcs := { ready.mcs with flight := some ⟨⟨3, .host, 0, 0⟩, .charge⟩ } } : State).taker 0 = .addressed := by
  decide

set_option maxRecDepth 20000 in
/-- No store in flight; one in flight for 479, 480, 1,440 and 1,441 tu, read back right and wrong. -/
theorem witness_DeviceResetRestoresResetValues :
    let busy (now : Time) : State := { ready with siteTime := now, cst := { ready.cst with store := some 0 } }
    State.reset.cst.store = none ∧ (busy 479).cst.store = some 0 ∧ ((busy 479).siteTime - 0).toNat < 480 ∧
    480 ≤ ((busy 480).siteTime - 0).toNat ∧ ((busy 1440).siteTime - 0).toNat ≤ 1440 ∧
    1440 < ((busy 1441).siteTime - 0).toNat ∧ crc16 ready.cst.staging.bytes = ready.cst.staging.crc ∧
    crc16 [1] ≠ ready.cst.staging.crc ∧ 15 < (paramScope .enable).size := by decide +kernel

/-- Every lane is quiet in `ready`, at its first and last lane; a standing load, a waiting pulse and a vehicle each take
lane 1's quiet away; a pulse end 3,199 tu back, 3,200 tu back, and out of reach. -/
theorem witness_QuietLanes :
    let ended (now : Time) : State := { ready.updScu 4 fun u => { u with lastEnd := some 0 } with siteTime := now }
    let buffered : State := { ready with
      apu := { ready.apu with side := upd ready.apu.side 7 fun _ => [⟨⟨7, 0, 0, 0, 0, false, false⟩, 0⟩] } }
    let followed : State := { ready with
      vau := { ready.vau with lane := upd ready.vau.lane 1 fun l => { l with ctx := .unrecorded ⟨0, 30000, 9⟩ } } }
    ready.taker 0 = .addressed ∧ ready.quiet 0 = true ∧ ready.quiet 3 = true ∧ ready.quiet (laneOf 15) = true ∧
    (ready.updScu 4 fun u => { u with standing := some { endRun := 0, due := 9 } }).quiet 1 = false ∧
    buffered.quiet 1 = false ∧ buffered.quiet 2 = true ∧ followed.quiet 1 = false ∧
    (ended 3199).quiet 1 = false ∧ (ended 3200).quiet 1 = true ∧ (ended 3199).quiet 0 = true ∧
    (ended 2147483648).quiet 1 = true := by decide

/-- A value that leaves AZL as it is, and values that do not, at the ends of its range; strips with and without DRIFT. -/
theorem witness_AzlWriteMovesTheWindows :
    ready.taker 0 = .addressed ∧ (max 0 (min (1024 : BitVec 32).toInt 4095)).toNat = ready.par.azl ∧
    (max 0 (min (0 : BitVec 32).toInt 4095)).toNat ≠ ready.par.azl ∧
    (max 0 (min (4096 : BitVec 32).toInt 4095)).toNat = 4095 ∧
    ((ready.updShu 2 fun h => { h with causes := { h.causes with drift := true } }).shu[(2 : Strip)].causes.drift = true) ∧
    ready.shu[(2 : Strip)].causes.drift = false ∧ ready.shu[(2 : Strip)].state ≠ .disabled := by decide

/-- ENABLE 0 and 1 against a strip in use and a DISABLED one. -/
theorem witness_EnableWriteMovesTheStrip :
    let off := ready.updShu 2 fun h => { h with state := .disabled }
    ready.taker 0 = .addressed ∧ off.taker 0 = .addressed ∧ ready.quiet 0 = true ∧ off.quiet (laneOf 2) = true ∧
    ready.shu[(2 : Strip)].state ≠ .disabled ∧ off.shu[(2 : Strip)].state = .disabled ∧
    (0 : BitVec 32).toInt ≤ 0 ∧ 0 < (1 : BitVec 32).toInt := by decide

/-- A VALID probe and one in FAULT that a lane is not mapped to, the one it is mapped to, a probe in each state; values that change
STRADDLE_EN and that leave it. -/
theorem witness_StraddleAndProbeWrites :
    let s : State := { ready with
      ptu := { ready.ptu with
        probe := upd (upd (upd ready.ptu.probe 3 fun u => { u with state := .valid }) 1 fun u => { u with state := .disabled })
          2 fun u => { u with state := .fault } } }
    s.taker 0 = .addressed ∧ s.quiet 0 = true ∧ s.quiet 1 = true ∧ s.quiet 3 = true ∧
    (max 0 (min (3 : BitVec 32).toInt 3)).toNat = (3 : Probe).val ∧ (3 : Probe) ≠ s.par.lane[(0 : Lane)].probeMap ∧
    (max 0 (min (2 : BitVec 32).toInt 3)).toNat = (2 : Probe).val ∧ (2 : Probe) ≠ s.par.lane[(0 : Lane)].probeMap ∧
    (max 0 (min (0 : BitVec 32).toInt 3)).toNat = (0 : Probe).val ∧ (0 : Probe) = s.par.lane[(0 : Lane)].probeMap ∧
    s.ptu.probe[(3 : Probe)].state = .valid ∧ s.ptu.probe[(1 : Probe)].state = .disabled ∧
    s.ptu.probe[(2 : Probe)].state = .fault ∧ s.ptu.probe[(0 : Probe)].state = .unknown ∧
    s.par.straddleEn[(0 : Boundary)] ≠ decide (0 < (0 : BitVec 32).toInt) ∧
    s.par.straddleEn[(0 : Boundary)] = decide (0 < (1 : BitVec 32).toInt) ∧ (0 : BitVec 32).toInt ≤ 0 := by decide

/-- The three modes, and the values on either side of them. -/
theorem witness_AlarmWritesArmTheUnit :
    ready.taker 0 = .addressed ∧ (0 : BitVec 32).toInt = AlarmMode.comparator.code ∧
    (1 : BitVec 32).toInt = AlarmMode.twoEvent.code ∧ (2 : BitVec 32).toInt = AlarmMode.oneEvent.code ∧
    2 < (3 : BitVec 32).toInt ∧ (BitVec.ofInt 32 (-1)).toInt < 0 := by decide

/-- A length of 0 with another slot left and with none left; rules at both ends, and the values outside them. -/
theorem witness_SlotWritesChangeThePendingFrame :
    let bare : State := { ready with mcs := { ready.mcs with pendingFrame := #v[⟨0, .probe⟩, ⟨0, .idle⟩, ⟨5, .read⟩, ⟨0, .idle⟩] } }
    ready.taker 0 = .addressed ∧ bare.taker 0 = .addressed ∧
    (∃ k : Fin 4, k ≠ 2 ∧ ready.mcs.pendingFrame[k].len ≠ 0) ∧
    (∀ k : Fin 4, k ≠ 2 → bare.mcs.pendingFrame[k].len = 0) ∧
    (0 : BitVec 32).toInt = SlotRule.probe.code ∧ (4 : BitVec 32).toInt = SlotRule.idle.code ∧ 4 < (5 : BitVec 32).toInt ∧
    (BitVec.ofInt 32 (-1)).toInt < 0 := by decide

/-- TEST_PERIOD running and stopped, values 0 and above; masks at both ends and outside. -/
theorem witness_PeriodAndMaskWrites :
    let off : State := { ready with par := { ready.par with testPeriod := 0 } }
    ready.taker 0 = .addressed ∧ ready.par.testPeriod ≠ 0 ∧ off.par.testPeriod = 0 ∧ off.taker 0 = .addressed ∧
    (max 0 (min (0 : BitVec 32).toInt 1440)).toNat = 0 ∧ (max 0 (min (1 : BitVec 32).toInt 1440)).toNat ≠ 0 ∧
    (63 : BitVec 32).toInt < 64 ∧ 64 ≤ (64 : BitVec 32).toInt ∧ (BitVec.ofInt 32 (-1)).toInt < 0 := by decide

/-- A strip with a pulse in progress: lane 1 and the boundaries beside it are not quiet. -/
def pulsing : State :=
  ready.updScu 4 fun u =>
    { u with
      pulse := some { first := 0, last := 0, area := 420, clipped := false, pend := [], total := 1, discard := false } }

theorem witness_ParameterChecksComeInOrder :
    pulsing.taker 0 = .addressed ∧ (written 1 5).length = 5 ∧ (written 1 5).getD 0 0 = byte 1 ∧ ([] : List Byte).length ≠ 5 ∧
    (paramScope .azl).size ≤ ((written 1 5).getD 0 0).toNat ∧ paramScope .tOn = .lane ∧ paramScope .enable = .strip ∧
    paramScope .straddleEn = .boundary ∧ pulsing.quiet 1 = false ∧ pulsing.quiet (laneOf 5) = false ∧
    pulsing.quiet (0 : Boundary).succ = false ∧ pulsing.quiet (1 : Boundary).castSucc = false := by decide

/-- A channel that processes samples, in each of its conditions: idle wait under way and over, a pulse with d at T_OFF and
below, standing with d at T_OFF and below. -/
theorem witness_SamplesMoveTheirChannel :
    let idle := ready.updScu 4 fun u => { u with idleWait := 1600 }
    let standing := ready.updScu 4 fun u => { u with standing := some { endRun := 2, due := 9 } }
    ready.heard 4 ∧ ready.scu[(4 : Strip)].pulse = none ∧ ready.scu[(4 : Strip)].standing = none ∧ ready.dev 4 399 < 400 ∧
    ready.scu[(4 : Strip)].idleWait < 1600 ∧ idle.heard 4 ∧ idle.scu[(4 : Strip)].idleWait = 1600 ∧
    pulsing.heard 4 ∧ (200 ≤ pulsing.dev 4 200) ∧ (pulsing.dev 4 199 < 200) ∧ pulsing.scu[(4 : Strip)].pulse.isSome = true ∧
    standing.heard 4 ∧ standing.scu[(4 : Strip)].standing = some { endRun := 2, due := 9 } ∧ 200 ≤ standing.dev 4 200 ∧
    standing.dev 4 199 < 200 ∧ State.reset.loaded = false ∧ State.reset.scu[(4 : Strip)].conn = .connected := by
  unfold State.heard
  decide

/-- d at T_ON, with no test in flight, with one on another lane and with one on the strip's own lane. -/
theorem witness_SampleStartsAPulse :
    let testing (i : Strip) : State := { ready with mcs := { ready.mcs with flight := some ⟨⟨i, .host, 0, 0⟩, .charge⟩ } }
    ready.heard 4 ∧ ready.scu[(4 : Strip)].pulse = none ∧ ready.scu[(4 : Strip)].standing = none ∧ 400 ≤ ready.dev 4 400 ∧
    ready.mcs.flight = none ∧ (testing 3).heard 4 ∧ laneOf 3 ≠ laneOf 4 ∧ (testing 7).heard 4 ∧ laneOf 7 = laneOf 4 := by
  unfold State.heard
  decide

/-- A pulse context whose next sample ends it, and one whose next sample is its 4000th. -/
theorem witness_PulseEndsGiveTheirRecords :
    let with_ (n : Nat) (pend : List (Nat × Bool)) : State := ready.updScu 4 fun u =>
      { u with
        pulse := some { first := 0, last := 0, area := 420, clipped := false, pend := pend, total := n, discard := false } }
    (with_ 10 [(1, false), (2, false), (3, false)]).heard 4 ∧ (with_ 3999 [(1, false)]).heard 4 ∧
    (with_ 10 [(1, false), (2, false), (3, false)]).dev 4 199 < 200 ∧ 200 ≤ (with_ 3999 []).dev 4 200 ∧
    (with_ 3999 [(1, false)]).dev 4 199 < 200 ∧ ready.scu[(4 : Strip)].standing = none := by
  unfold State.heard
  decide

/-- The fourth sample of a standing end run; the 199th and the 200th settling sample. -/
theorem witness_StandingAndSettlingEnd :
    let standing := ready.updScu 4 fun u => { u with standing := some { endRun := 3, due := 9 } }
    let settling (k : Nat) := ready.updScu 4 fun u => { u with conn := .settling k }
    standing.heard 4 ∧ standing.scu[(4 : Strip)].standing = some { endRun := 3, due := 9 } ∧ standing.dev 4 199 < 200 ∧
    standing.scu[(4 : Strip)].pulse = none ∧ (settling 198).scu[(4 : Strip)].conn = .settling 198 ∧
    (settling 199).scu[(4 : Strip)].conn = .settling 199 ∧ ready.siteTime.toNat % 2 = 0 := by
  unfold State.heard
  decide

/-- Baseline 0 with a window of 1024 and 64 idle samples at m: m at AZ_TOL, just above and just below it, and at the window's
ends; a strip that is not idle. -/
theorem witness_AutoZeroMovesOneCode :
    let idle (b m : Int) := ready.updScu 4 fun u =>
      { u with base := b, azDue := some 0, idleWait := 1600, idleWin := List.replicate 64 m }
    ready.siteTime = 0 ∧ (idle 0 2).scu[(4 : Strip)].azDue = some 0 ∧ ((idle 0 2).scu[(4 : Strip)].idleWin.sum + 32) / 64 = 2 ∧
    ((idle 0 3).scu[(4 : Strip)].idleWin.sum + 32) / 64 = 3 ∧ ((idle 0 (-3)).scu[(4 : Strip)].idleWin.sum + 32) / 64 = -3 ∧
    (idle 1024 2000).scu[(4 : Strip)].base = 1024 ∧ ((idle 1024 2000).scu[(4 : Strip)].idleWin.sum + 32) / 64 = 2000 ∧
    (idle (-1024) (-2000)).scu[(4 : Strip)].base = -1024 ∧
    ((idle (-1024) (-2000)).scu[(4 : Strip)].idleWin.sum + 32) / 64 = -2000 ∧ ready.scu[(4 : Strip)].idleWait ≠ 1600 := by
  decide +kernel

/-- Each of the six timers at the moment of its expiry; the noise window of a CONNECTED strip and of one under test. -/
theorem witness_TimersExpire :
    let s : State :=
      { (ready.updScu 4 fun u =>
          { u with pinDue := some 0, noiseDue := some 0, standing := some { endRun := 0, due := 0 } }) with
        ptu := { ready.ptu with lane := upd ready.ptu.lane 1 fun l => { l with holdDue := some 0 } }
        mcs := { ready.mcs with strip := upd ready.mcs.strip 4 fun t => { t with periodicDue := some 0 } }
        shu := upd ready.shu 4 fun h => { h with state := .outOfService, holdoffDue := some 0 } }
    s.siteTime = 0 ∧ s.scu[(4 : Strip)].pinDue = some 0 ∧ s.scu[(4 : Strip)].standing = some { endRun := 0, due := 0 } ∧
    s.scu[(4 : Strip)].noiseDue = some 0 ∧ s.scu[(4 : Strip)].conn = .connected ∧
    (s.updScu 4 fun u => { u with conn := .underTest }).scu[(4 : Strip)].conn ≠ .connected ∧
    (s.updScu 4 fun u => { u with conn := .settling 5 }).scu[(4 : Strip)].noiseDue = some 0 ∧
    s.ptu.lane[(1 : Lane)].holdDue = some 0 ∧ s.mcs.strip[(4 : Strip)].periodicDue = some 0 ∧ 0 < s.par.testPeriod ∧
    s.shu[(4 : Strip)].holdoffDue = some 0 := by decide

/-- A probe slot at its end, with an IDLE slot behind it in the frame, and with the pending frame behind it; readings at the
range's ends, at the spike step and past them. -/
theorem witness_ProbeSlotHandsOverItsReading :
    let frame : Vector Slot 4 := #v[⟨25, .probe⟩, ⟨0, .read⟩, ⟨5, .idle⟩, ⟨25, .probe⟩]
    let next : Vector Slot 4 := #v[⟨0, .probe⟩, ⟨7, .idle⟩, ⟨5, .idle⟩, ⟨25, .probe⟩]
    let s : State := { ready with
      mcs := { ready.mcs with frame := frame, pendingFrame := next, slotDue := some 0, work := .probe 1 } }
    due s.mcs.slotDue s.siteTime ∧ s.mcs.work = .probe 1 ∧ s.mcs.flight = none ∧ s.mcs.begins frame 2 ∧
    frame[(2 : Fin 4)].rule = .idle ∧ ({ s.mcs with pos := 3 } : Mcs).begins next 1 ∧ next[(1 : Fin 4)].rule = .idle ∧
    s.ptu.probe[(1 : Probe)].state = .unknown ∧
    (BitVec.ofInt 16 (-800)).toInt = -800 ∧ (BitVec.ofInt 16 1600).toInt ≤ 1600 ∧ (BitVec.ofInt 16 (-801)).toInt < -800 ∧
    ((32 : BitVec 16).toInt - s.ptu.probe[(1 : Probe)].filt).natAbs ≤ 32 ∧
    32 < ((33 : BitVec 16).toInt - s.ptu.probe[(1 : Probe)].filt).natAbs :=
  ⟨⟨0, rfl, by decide⟩, by decide, by decide, .inl ⟨⟨by decide, by decide, by decide⟩, rfl⟩, by decide,
    .inr ⟨by decide, rfl, by decide, by decide⟩, by decide, by decide, by decide, by decide, by decide, by decide, by decide⟩

/-- Lanes with their mapped probe VALID, with another one VALID, and with none; TEMP_HOLD above 0 and 0. -/
theorem witness_LanesAndAlarmsTakeANewF :
    let one : State := { ready with ptu := { ready.ptu with probe := upd ready.ptu.probe 0 fun u => { u with state := .valid } } }
    let none_ : State := { ready with ptu := { ready.ptu with lane := upd ready.ptu.lane 0 fun l => { l with validity := .valid } } }
    one.ptu.probe[one.par.lane[(0 : Lane)].probeMap].state = .valid ∧
    one.ptu.probe[one.par.lane[(1 : Lane)].probeMap].state ≠ .valid ∧
    ((one.ptu.probe.toList.filter fun u => u.state = .valid).map fun u => u.filt) ≠ [] ∧
    ((none_.ptu.probe.toList.filter fun u => u.state = .valid).map fun u => u.filt) = [] ∧
    none_.ptu.lane[(0 : Lane)].validity = .valid ∧ none_.ptu.lane[(1 : Lane)].validity ≠ .valid ∧ 0 < none_.par.tempHold := by
  decide

/-- The default frame's charge slot at its start with an eligible entry, then the same test in its charge and in its read phase;
slot lengths at and below the limits of R44; a charge in the last slot with the READ slot in the pending frame; the pointer's
probe enabled, the next two disabled; a CHARGE_ELSE_PROBE slot that no READ slot follows; a stopped test with a READ slot behind
it, a probe's reading with a PROBE slot behind it, and a charge with a READ slot too short behind it. -/
theorem witness_SlotsRunATest :
    let e : TestEntry := ⟨3, .host, 0, 0⟩
    let queued (frame : Vector Slot 4) : State := { ready with
      mcs := { ready.mcs with frame := frame, slotDue := some 0, queue := [e], stamps := 1 } }
    let testing (frame : Vector Slot 4) (ph : Phase) (w : Work) : State := { ready with
      mcs := { ready.mcs with frame := frame, slotDue := some 0, flight := some ⟨e, ph⟩, work := w } }
    let working (frame : Vector Slot 4) (w : Work) : State := { queued frame with mcs := { (queued frame).mcs with work := w } }
    let run : Vector Slot 4 := #v[⟨25, .probe⟩, ⟨50, .chargeElseIdle⟩, ⟨10, .read⟩, ⟨25, .probe⟩]
    let short : Vector Slot 4 := #v[⟨25, .probe⟩, ⟨49, .chargeElseIdle⟩, ⟨9, .read⟩, ⟨25, .probe⟩]
    let late : Vector Slot 4 := #v[⟨25, .probe⟩, ⟨9, .read⟩, ⟨10, .idle⟩, ⟨25, .probe⟩]
    let twice : Vector Slot 4 := #v[⟨25, .probe⟩, ⟨20, .probe⟩, ⟨10, .idle⟩, ⟨25, .probe⟩]
    let charge : Vector Slot 4 := #v[⟨25, .probe⟩, ⟨10, .read⟩, ⟨10, .idle⟩, ⟨25, .probe⟩]
    let read : Vector Slot 4 := #v[⟨25, .probe⟩, ⟨10, .idle⟩, ⟨10, .idle⟩, ⟨25, .probe⟩]
    let last : Vector Slot 4 := #v[⟨0, .probe⟩, ⟨50, .chargeElseProbe⟩, ⟨0, .read⟩, ⟨0, .probe⟩]
    let probes := upd (upd ready.ptu.probe 1 fun u => { u with state := .disabled }) 2 fun u => { u with state := .disabled }
    (queued run).mcs.begins run 1 ∧ (queued run).shu[(3 : Strip)].state = .inService ∧
    (queued run).scu[(3 : Strip)].conn = .connected ∧ (queued run).quiet (laneOf 3) = true ∧
    ({ (queued run).mcs with frame := run, pos := 1 } : Mcs).begins run 2 ∧ 50 ≤ run[(1 : Fin 4)].len ∧
    10 ≤ run[(2 : Fin 4)].len ∧ short[(1 : Fin 4)].len < 50 ∧ short[(2 : Fin 4)].len < 10 ∧
    (testing charge .charge .charge).mcs.begins charge 1 ∧ (testing read .read .read).mcs.begins read 1 ∧
    due (queued run).mcs.slotDue (queued run).siteTime ∧ (queued run).mcs.work = .none ∧
    (∃ j : Fin 4, ready.mcs.pendingFrame[j].len ≠ 0) ∧
    ({ (queued run).mcs with frame := run, pos := 3 } : Mcs).begins ready.mcs.pendingFrame 0 ∧
    ({ (queued run).mcs with frame := last, pendingFrame := charge, pos := 1 } : Mcs).begins charge 0 ∧
    charge[(0 : Fin 4)].rule ≠ .read ∧ last[(1 : Fin 4)].rule = .chargeElseProbe ∧
    probes[(0 : Probe) + 0].state ≠ .disabled ∧ probes[(1 : Probe) + 2].state ≠ .disabled ∧
    (∀ d : Fin 4, d < 2 → probes[(1 : Probe) + d].state = .disabled) ∧
    (working charge .stopped).mcs.flight = none ∧ (working charge .stopped).mcs.begins charge 1 ∧
    charge[(1 : Fin 4)].rule = .read ∧ (working twice (.probe 0)).mcs.begins twice 1 ∧ twice[(1 : Fin 4)].rule = .probe ∧
    (working twice (.probe 0)).mcs.flight = none ∧ twice[(1 : Fin 4)].len = 20 ∧
    (testing late .charge .charge).mcs.begins late 1 ∧ late[(1 : Fin 4)].rule = .read ∧ late[(1 : Fin 4)].len < 10 :=
  ⟨.inl ⟨⟨by decide, by decide, by decide⟩, rfl⟩, by decide, by decide, by decide,
    .inl ⟨⟨by decide, by decide, by decide⟩, rfl⟩, by decide, by decide, by decide, by decide,
    .inl ⟨⟨by decide, by decide, by decide⟩, rfl⟩, .inl ⟨⟨by decide, by decide, by decide⟩, rfl⟩, ⟨0, rfl, by decide⟩,
    by decide, ⟨0, by decide⟩, .inr ⟨by decide, rfl, by decide, by decide⟩, .inr ⟨by decide, rfl, by decide, by decide⟩,
    by decide, by decide, by decide, by decide, by decide, by decide, .inl ⟨⟨by decide, by decide, by decide⟩, rfl⟩, by decide,
    .inl ⟨⟨by decide, by decide, by decide⟩, rfl⟩, by decide, by decide, by decide,
    .inl ⟨⟨by decide, by decide, by decide⟩, rfl⟩, by decide, by decide⟩

/-- An entry in flight, an entry in the queue and no entry, against a higher and the same origin; an entry that returns with a
stamp of its own. -/
theorem witness_TestRequestTakesItsPlace :
    let e : TestEntry := ⟨3, .suspect, 0, 0⟩
    let queued : Mcs := { Mcs.reset with queue := [e], stamps := 1 }
    let flying : Mcs := { Mcs.reset with flight := some ⟨e, .charge⟩, stamps := 1 }
    flying.flight = some ⟨e, .charge⟩ ∧ Origin.host.rank < e.origin.rank ∧ e.origin.rank ≤ Origin.suspect.rank ∧
    (∀ q ∈ queued.queue, q.strip = 3 → q = e) ∧ queued.flight = none ∧ (∀ q ∈ queued.queue, q.strip ≠ 4) ∧
    (∀ q ∈ queued.queue, q.stamp < queued.stamps) ∧ (∀ q ∈ queued.queue, q.stamp ≠ 7) ∧
    queued.queue.Pairwise (fun a b => a.origin.rank < b.origin.rank ∨ (a.origin.rank = b.origin.rank ∧ a.stamp < b.stamp)) := by
  decide

/-- Strips in each service state, with an empty cause set and with NOISE, and a fail count of 0 and of 1. -/
theorem witness_EvidenceAndResultsMoveTheServiceState :
    let at_ (st : Service) (noise : Bool) (fails : Nat) := ready.updShu 4 fun h =>
      { h with state := st, failCount := fails, causes := { h.causes with noise := noise } }
    let gain (c : Causes) : Causes := { c with drift := true }
    let lose (c : Causes) : Causes := { c with noise := false }
    gain (at_ .inService false 0).shu[(4 : Strip)].causes ≠ (at_ .inService false 0).shu[(4 : Strip)].causes ∧
    (gain (at_ .inService false 0).shu[(4 : Strip)].causes).any = true ∧
    (lose (at_ .suspect true 0).shu[(4 : Strip)].causes).any = false ∧
    lose (at_ .suspect true 0).shu[(4 : Strip)].causes ≠ (at_ .suspect true 0).shu[(4 : Strip)].causes ∧
    (gain (at_ .suspect true 0).shu[(4 : Strip)].causes).any = true ∧
    (at_ .suspect true 1).shu[(4 : Strip)].failCount = 1 ∧ (at_ .recovering false 0).shu[(4 : Strip)].state = .recovering ∧
    (at_ .outOfService false 0).shu[(4 : Strip)].state = .outOfService ∧
    (at_ .disabled false 0).shu[(4 : Strip)].state = .disabled := by decide

/-- Miss counts just below and at MISS_LIM and at 4 × MISS_LIM; a disturbed strip and one that never was. -/
theorem witness_MissesAndContributions :
    let at_ (n : Nat) := ready.updShu 4 fun h => { h with missCount := n }
    let tested := ready.updScu 4 fun u => { u with disturb := some { start := 0, stop := none } }
    (at_ 2).shu[(4 : Strip)].state = .inService ∧ min ((at_ 2).shu[(4 : Strip)].missCount + 1) 255 < ready.par.missLim ∧
    ready.par.missLim ≤ min ((at_ 3).shu[(4 : Strip)].missCount + 1) 255 ∧
    min ((at_ 14).shu[(4 : Strip)].missCount + 1) 255 < 4 * ready.par.missLim ∧
    4 * ready.par.missLim ≤ min ((at_ 15).shu[(4 : Strip)].missCount + 1) 255 ∧
    (ready.updShu 4 fun h => { h with state := .recovering }).shu[(4 : Strip)].state = .recovering ∧
    tested.scu[(4 : Strip)].disturb = some { start := 0, stop := none } ∧ tested.siteTime - 0 = 0 ∧
    ready.scu[(4 : Strip)].disturb = none := by decide

/-- A full-row pair of lane 1 at the distance W_LR = 48 and past it; a waiting pulse of strip 4 and one of strip 5. -/
def pulse (i : Strip) (mid : Time) : PulseRecord :=
  { strip := i, first := mid - 10, last := mid + 10, mid := mid, area := 150000, clipped := false, long := false }

/-- A state with one pulse of strip 4 in transit at 1000 and the given buffers of strips 4 and 5. -/
def arriving (own other : List Waiting) : State :=
  { ready with
    siteTime := 1100
    apu := { ready.apu with
      transit := [pulse 4 1000], side := upd (upd ready.apu.side 4 fun _ => own) 5 fun _ => other } }

theorem witness_PulseArrivalPairsOrWaits :
    let w (i : Strip) (mid : Time) : Waiting := ⟨pulse i mid, mid + 68⟩
    let near (x : Waiting) : Prop := (x.pulse.mid - (1000 : Time)).toNat ≤ 48 ∨ ((1000 : Time) - x.pulse.mid).toNat ≤ 48
    (arriving [] []).apu.transit = [] ++ pulse 4 1000 :: [] ∧ (pulse 4 1000).strip = 4 ∧
    (arriving [] []).par.lane[laneOf 4].wLr ≤ 400 ∧ (arriving [] []).apu.side[partnerOf 4] = [] ∧
    ((arriving [w 4 900, w 4 910, w 4 920] []).apu.side[(4 : Strip)].length < 4) ∧
    ((arriving [w 4 900, w 4 910, w 4 920, w 4 930] []).apu.side[(4 : Strip)] =
      w 4 900 :: [w 4 910, w 4 920, w 4 930]) ∧
    (arriving [] [w 5 951, w 5 1048]).apu.side[partnerOf 4] = [w 5 951] ++ w 5 1048 :: [] ∧
    ¬ near (w 5 951) ∧ near (w 5 1048) ∧ (w 5 1048).pulse.strip = partnerOf 4 := by decide

/-- A lone pulse of strip 4 whose partner is in use, out of service, or under test at its midpoint, at the start of the test and at
its end; and one astride boundary 0 with a pulse of lane 1's strip 5 and lane 0's strip 0, at the distance W_LR. -/
theorem witness_LonePulsesStraddleOrHalve :
    let w (i : Strip) (mid : Time) : Waiting := ⟨pulse i mid, mid + 68⟩
    let lone := { arriving [w 4 1000] [] with apu := { (arriving [w 4 1000] []).apu with transit := [] } }
    let out := lone.updShu 5 fun h => { h with state := .outOfService }
    let blind (d : Disturb) := lone.updScu 5 fun u => { u with disturb := some d }
    let astride := { ready with
      siteTime := 1100
      apu := { ready.apu with side := upd (upd ready.apu.side 0 fun _ => [w 0 1000]) 5 fun _ => [w 5 1048] } }
    lone.apu.side[(4 : Strip)][(0 : Fin 4).val]? = some (w 4 1000) ∧ ((lone.siteTime - (1068 : Time)).toNat < 2147483648) ∧
    lone.shu[partnerOf 4].state = .inService ∧ lone.scu[partnerOf 4].disturb = none ∧
    out.shu[partnerOf 4].state = .outOfService ∧ (blind ⟨1000, none⟩).scu[partnerOf 4].disturb = some ⟨1000, none⟩ ∧
    ((1000 : Time) - 1000).toNat < 2147483648 ∧ 0 < ((1001 : Time) - 1000).toNat ∧ ¬ 0 < ((1000 : Time) - 1000).toNat ∧
    2147483648 ≤ ((1000 : Time) - 1001).toNat ∧
    lone.apu.side[(9 : Strip)] = [] ∧ astride.par.straddleEn[(0 : Boundary)] = true ∧
    astride.apu.side[(0 : Strip)][(0 : Fin 4).val]? = some (w 0 1000) ∧ (pulse 0 1000).strip.val + 5 = (5 : Strip).val ∧
    astride.apu.side[(5 : Strip)] = [] ++ w 5 1048 :: [] ∧ (w 5 1048).pulse.strip = 5 ∧
    ((w 5 1048).pulse.mid - (w 0 1000).pulse.mid).toNat ≤ astride.par.lane[(0 : Boundary).castSucc].wLr := by decide

/-- A row hit of lane 1. -/
def hit (row : Row) (kind : HitKind) (t : Time) : RowHit :=
  { lane := 1, row := row, kind := kind, time := t, left := some (pulse 4 t), right := some (pulse 5 t), flags := 0 }

/-- Lane 1 with one upstream entry at 1000 whose window runs from 692 to 86,330, and the given context. -/
def waiting (now : Time) (c : Context) : State :=
  { ready with
    siteTime := now
    apu := { ready.apu with queue := upd ready.apu.queue 1 fun _ => [⟨hit .up .full 1000, 692, 86330⟩] }
    vau := { ready.vau with lane := upd ready.vau.lane 1 fun l => { l with ctx := c } } }

/-- A vehicle in progress. -/
def inProgress : Progress := { lastTime := 500, vLast := 30000, deadline := 11401 }

theorem witness_EntryExpiryResolvesUpstreamOnly :
    (waiting 87331 .empty).apu.queue[(1 : Lane)][(0 : Fin 4).val]? = some ⟨hit .up .full 1000, 692, 86330⟩ ∧
    (hit .up .full 1000).lane = 1 ∧ ((87331 : Time) - ((1000 : Time) + BitVec.ofNat 32 86330)).toNat = 1 ∧
    (waiting 87331 .empty).vau.lane[(1 : Lane)].ctx = .empty ∧
    (waiting 87331 (.unrecorded inProgress)).vau.lane[(1 : Lane)].ctx.vLast? = some 30000 := by decide

/-- A younger upstream hit behind the entry, full and expected, not yet and already expired; one at the end of a queue of four; a
downstream hit at both ends of the entry's window, and one past it. -/
theorem witness_UpstreamHitsWaitDownstreamHitsMatch :
    let s := waiting 2000 .empty
    let four : List QueueEntry := [1000, 1100, 1200, 1300].map fun t => ⟨hit .up .full t, 692, 86330⟩
    let filled : State := { s with apu := { s.apu with queue := upd s.apu.queue 1 fun _ => four } }
    let new : QueueEntry := ⟨hit .up .full 1500, 115, 14388⟩
    (hit .up .full 1500).row = .up ∧ s.apu.queue[(1 : Lane)] = [⟨hit .up .full 1000, 692, 86330⟩] ++ [] ∧
    ((2000 : Time) - 1500).toNat ≤ ((2000 : Time) - 1000).toNat ∧ s.vau.lane[(1 : Lane)].ctx = .empty ∧
    (waiting 2000 (.unrecorded inProgress)).vau.lane[(1 : Lane)].ctx.vLast? = some 30000 ∧
    s.cst.working.lane[(1 : Lane)].spacing * 16000 / 556 = 14388 ∧
    2147483648 ≤ ((2000 : Time) - (1500 + BitVec.ofNat 32 14388)).toNat ∧
    ((15889 : Time) - (1500 + BitVec.ofNat 32 14388)).toNat = 1 ∧
    filled.apu.queue[(1 : Lane)] = four ++ [] ∧ (∀ e ∈ four, ((2000 : Time) - 1500).toNat ≤ ((2000 : Time) - e.hit.time).toNat) ∧
    four ++ new :: [] = ⟨hit .up .full 1000, 692, 86330⟩ :: (four.tail ++ [new]) ∧ (four.tail ++ [new]).length = 4 ∧
    (hit .down .full 1692).row = .down ∧ ((1692 : Time) - 1000).toNat = 692 ∧ ((87330 : Time) - 1000).toNat = 86330 ∧
    86330 < ((87331 : Time) - 1000).toNat ∧
    ((hit .up .full 1000).pattern, (hit .down .full 1692).pattern) = (SidePattern.full, SidePattern.full) := by decide

/-- The clamped temperature at both ends of the first and of the last interval between breakpoints, and at 1280; a gain and a trim
at the ends of their ranges. -/
theorem witness_GainLiesBetweenItsBreakpoints :
    max (-640) (min (-800) 1280) = (240 * ((0 : Fin 8).val : Int) - 640) ∧
    max (-640) (min (-400) 1280) = (240 * ((0 : Fin 8).val : Int) - 400) ∧
    240 * ((7 : Fin 8).val : Int) - 640 ≤ max (-640) (min 1600 1280) ∧
    max (-640) (min 1600 1280) ≤ 240 * ((7 : Fin 8).val : Int) - 400 ∧ max (-640) (min 1600 1280) = 1280 ∧
    effectiveGain 1 (-512) = 1 ∧ effectiveGain 65535 511 = 65535 := by decide

/-- A usable row, a row of one pulse, a row with a strip out of service, one with a SUSPECT strip; a lane with each validity; a
switch closed. -/
theorem witness_AxlesAreWeighedFromTheirRows :
    let out := ready.updShu 5 fun h => { h with state := .outOfService }
    let doubtful := ready.updShu 5 fun h => { h with state := .suspect }
    let held : State := { ready with ptu := { ready.ptu with lane := upd ready.ptu.lane 1 fun l => { l with validity := .held } } }
    (hit .up .full 1000).kind ≠ .half ∧ ready.shu[(4 : Strip)].state = .inService ∧ ready.shu[(5 : Strip)].state = .inService ∧
    (hit .up .half 1000).kind = .half ∧ out.shu[(5 : Strip)].state = .outOfService ∧
    doubtful.shu[(5 : Strip)].state = .suspect ∧ held.ptu.lane[laneOf 5].validity = .held ∧
    ready.ptu.lane[laneOf 5].validity = .invalid := by decide

/-- A weighed axle of lane 1 at time 1000. -/
def axle (v : Nat) : WeighedAxle := { lane := 1, straddle := none, entry := ⟨1000, v, 5000, 5000, 5000, 2500, 2500, 0⟩ }

/-- A COMPLETE record of lane 1 with two axles, under a number. -/
def record (number : Nat) (st : RecState) (held : Bool) : Record :=
  { number := number, lane := 1, state := st, held := held, unread := true, tag := none, straddle := none, count := 2
    overflow := false, calChanged := false, axles := [(axle 30000).entry, { (axle 30000).entry with time := 1200 }]
    spacings := [38], groups := [], gross := 10000, meanSpeed := 0, classCode := 0, generation := 0, firstTime := 1000
    lastTime := 1200, closeTime := none, laneTemp := 320, laneValidity := .invalid, calCounter := 0, reasons := 0
    certified := false }

/-- A record table with the given records, all COMPLETE ones in completion order. -/
def holding (rs : List Record) (c : Context) : State :=
  { waiting 1100 c with
    vrt :=
      { live := rs, completed := (rs.filter fun r => r.state = .complete).map fun r => r.number, counter := 65535 } }

/-- Forty COMPLETE records, all held but the one of the given number. -/
def full (free : Nat) : List Record := (List.range 40).map fun k => record (k + 1) .complete (k + 1 ≠ free)

/-- An axle at an EMPTY context with room, with a full table that has an unheld record, and with one that has none; at a LINKED
and an UNRECORDED one that it joins at the bounds of MAXSP and SPDTOL, or does not; its deadline still ahead, at the moment, and
passed by 1 tu. -/
theorem witness_AxlesOpenJoinAndCloseVehicles :
    let p : Progress := { lastTime := 500, vLast := 30000, deadline := 11401 }
    let deadline : Time := 1000 + BitVec.ofNat 32 (min ((1500 * 10 + 500) * 16000 / 30000 + 801) 64000)
    (2147483648 ≤ ((1100 : Time) - deadline).toNat) ∧ ((10067 : Time) - deadline).toNat = 0 ∧
    ((10068 : Time) - deadline).toNat = 1 ∧ (holding [] .empty).vau.lane[(1 : Lane)].ctx = .empty ∧
    (holding [] .empty).vrt.live.length < 40 ∧ (holding (full 3) .empty).vrt.live.length = 40 ∧
    (holding (full 3) .empty).vrt.completed = [1, 2] ++ 3 :: ((List.range 37).map fun k => k + 4) ∧
    (∀ k ∈ [1, 2], ∀ r ∈ (holding (full 3) .empty).vrt.live, r.number = k → r.held = true) ∧
    (record 3 .complete false).held = false ∧
    (∀ k ∈ (holding (full 0) .empty).vrt.completed, ∀ r ∈ (holding (full 0) .empty).vrt.live, r.number = k → r.held = true) ∧
    (holding [record 7 .opened false] (.linked 7 p)).vau.lane[(1 : Lane)].ctx = .linked 7 p ∧
    (holding [] (.unrecorded p)).vau.lane[(1 : Lane)].ctx = .unrecorded p ∧
    (((1000 : Time) - 500).toNat * ((30000 + 30000) / 2) + 80000) / 160000 ≤ 1500 ∧
    (max 34500 30000 - min 34500 30000) * 100 ≤ 15 * 30000 ∧ ¬ (max 34501 30000 - min 34501 30000) * 100 ≤ 15 * 30000 := by
  decide +kernel

theorem witness_CloseDeadlineClosesTheVehicle :
    ((11402 : Time) - inProgress.deadline).toNat = 1 ∧
    (waiting 11402 (.linked 7 inProgress)).vau.lane[(1 : Lane)].ctx = .linked 7 inProgress ∧
    (waiting 11402 (.unrecorded inProgress)).vau.lane[(1 : Lane)].ctx = .unrecorded inProgress := by decide

theorem witness_GroupsPartitionTheAxles :
    let r := record 7 .complete false
    1 ≤ r.axles.length ∧ r.spacings.length = r.axles.length - 1 ∧ r.gross = (r.axles.map (·.load)).sum := by decide

/-- Masks at the ends of their ranges; a record in a table of its own number, held and not held, with 37 and with 38 others held;
a number that no live record carries. -/
theorem witness_RecordReadsAndMarks :
    let r := record 7 .complete false
    let many (n : Nat) : List Record := (List.range n).map fun k => record (k + 100) .complete true
    ready.taker 0 = .addressed ∧ (holding (r :: many 38) .empty).taker 0 = .addressed ∧ (0x0F : Byte).toNat < 16 ∧
    16 ≤ (0x10 : Byte).toNat ∧ (0x03 : Byte).toNat < 4 ∧ 4 ≤ (0x04 : Byte).toNat ∧
    (holding (r :: many 38) .empty).vrt.live = [] ++ r :: many 38 ∧ (∀ q ∈ many 38, q.number ≠ r.number) ∧
    (many 37).countP (fun q => q.held) < 38 ∧ 38 ≤ (many 38).countP (fun q => q.held) ∧ (1 < r.axles.length) ∧
    3 ∉ (holding (r :: many 38) .empty).vrt.live.map (·.number) := by decide +kernel

theorem witness_RecordsCloseRetireAndReclass :
    (holding [record 7 .opened false] .empty).taker 0 = .addressed ∧ (record 7 .opened false).state = .opened ∧
    (record 7 .complete false).state = .complete ∧
    (holding [record 7 .complete false] .empty).vrt.live = [] ++ record 7 .complete false :: [] := by decide

/-- Two COMPLETE neighbours of lane 1 with another lane's record between them, in both orders and with one of their own lane
between; two overlong ones; an OPEN one. -/
theorem witness_MergeJoinsNeighbours :
    let a := record 7 .complete false
    let b := record 9 .complete false
    let other := { record 8 .complete false with lane := 0 }
    let s := holding [a, other, b] .empty
    s.taker 0 = .addressed ∧ a ∈ s.vrt.live ∧ b ∈ s.vrt.live ∧ (s.vrt.live.map (·.number)).Nodup ∧ a.number ≠ b.number ∧
    a.state = .complete ∧ b.state = .complete ∧ s.vrt.live = [] ++ a :: [other] ++ b :: [] ∧ a.lane = b.lane ∧
    (∀ q ∈ [other], q.lane ≠ a.lane) ∧ a.overflow = false ∧ a.axles.length + b.axles.length ≤ 12 ∧
    a.axles = [(axle 30000).entry] ++ [{ (axle 30000).entry with time := 1200 }] ∧
    12 < { a with axles := List.replicate 11 (axle 30000).entry }.axles.length + b.axles.length ∧
    (record 7 .opened false).state = .opened ∧ 5 ∉ s.vrt.live.map (·.number) ∧ other.lane ≠ a.lane := by decide +kernel

theorem witness_SplitDividesARecord :
    let a := record 7 .complete false
    let s := holding [a] .empty
    s.taker 0 = .addressed ∧ s.vrt.live = [] ++ a :: [] ∧ 1 < a.axles.length ∧ a.overflow = false ∧ a.state = .complete ∧
    s.vrt.live.length < 40 ∧ (holding (full 3) .empty).vrt.live.length = 40 ∧ a.axles.length ≤ 2 ∧
    (record 7 .opened false).state = .opened ∧ 5 ∉ s.vrt.live.map (·.number) := by decide +kernel

/-- A legal rule with its fields at the ends of their ranges; a payload that fails each check of R152. -/
theorem witness_ClassCommandsEditTheShadowBank :
    let r : ClassRule :=
      { valid := true, code := 63, axMin := 31, axMax := 31, grossMin := some 4294967295, grossMax := some 4294967295
        straddle := true, windows := List.replicate 11 (65535, 65535), pattern := some (List.replicate 12 1) }
    ready.taker 0 = .addressed ∧ r.legal ∧ ([] : List Byte).length < 15 ∧ (32 :: r.image).length = 15 + 4 * 11 + 12 ∧
    31 < u8 (32 :: r.image) 0 ∧ ([0] : List Byte) ≠ [] ∧ 31 < u8 [0, 32] 1 ∧ 1 < u8 [2, 0] 0 := by
  refine ⟨by decide, ⟨by decide, by decide, by decide, by decide, by decide, ?_, ?_, ?_, by decide, by decide, ?_⟩,
    by decide, by decide, by decide, by decide, by decide, by decide⟩
  · rintro g ⟨⟩; decide
  · rintro g ⟨⟩; decide
  · rintro a b ⟨⟩ ⟨⟩; decide
  · rintro sizes ⟨⟩; decide

/-- A bank whose third rule is the first to match, and a bank with no valid rule. -/
theorem witness_FirstMatchingRuleGivesTheClass :
    let q : ClassQuery := { count := 3, gross := 26115, straddle := false, spacings := [384, 96], groups := [1, 2] }
    let c : Cls := { Cls.reset with bank0 := Cls.reset.bank0.set 2 { ClassRule.blank with valid := true, code := 8 } }
    c.bank0[(2 : Fin 32)].matches q = true ∧ c.bank0[(1 : Fin 32)].matches q = false ∧
    c.bank0[(0 : Fin 32)].matches q = false ∧ (∀ k : Fin 32, Cls.reset.bank0[k].valid = false) := by decide +kernel

/-- A strip in each service state, with the holdoff timer running and stopped, with a test queued and in flight; an index
outside the range. -/
theorem witness_StripCommandsActOnTheStrip :
    let at_ (st : Service) (d : Option Time) := ready.updShu 4 fun h => { h with state := st, holdoffDue := d }
    let queued : State := { ready with mcs := { ready.mcs with queue := [⟨4, .host, 0, 0⟩] } }
    let flying : State := { ready with mcs := { ready.mcs with flight := some ⟨⟨4, .host, 0, 0⟩, .read⟩ } }
    (at_ .disabled none).taker 0 = .addressed ∧ (at_ .disabled none).shu[(4 : Strip)].state = .disabled ∧
    (at_ .outOfService (some 5)).shu[(4 : Strip)].holdoffDue.isSome = true ∧
    (at_ .outOfService none).shu[(4 : Strip)].holdoffDue = none ∧ (at_ .suspect none).shu[(4 : Strip)].state = .suspect ∧
    (at_ .recovering none).shu[(4 : Strip)].state = .recovering ∧ ready.shu[(4 : Strip)].state = .inService ∧
    (∀ q ∈ queued.mcs.queue, q.strip = 4 → q = ⟨4, .host, 0, 0⟩) ∧ flying.mcs.flight = some ⟨⟨4, .host, 0, 0⟩, .read⟩ ∧
    15 < u8 [16] 0 ∧ ([] : List Byte).length ≠ 1 := by decide

/-- The switch closed and open, a store in flight; items at the ends of their ranges and outside them. -/
theorem witness_CalibrationIsEditedInStaging :
    let closed : State := { ready with cst := { ready.cst with closed := true } }
    let busy : State := { closed with cst := { closed.cst with store := some 0 } }
    closed.taker 0 = .addressed ∧ closed.cst.closed = true ∧ closed.cst.store = none ∧ ready.cst.closed = false ∧
    busy.cst.store.isSome = true ∧ busy.taker 0 = .addressed ∧
    (∀ j : Fin 9, (Vector.replicate 9 65535)[j] < 65536) ∧ 19 < u8 [20] 0 ∧ s16 [16, 0, 0, 0x02, 0x00] 3 = 512 ∧
    511 < s16 [16, 0, 0, 0x02, 0x00] 3 ∧ s16 [16, 0, 0, 0xFD, 0xFF] 3 < -512 ∧ (1 : Byte).toNat < 2 := by decide

/-- Addressed and broadcast with the switch closed, broadcast with it open and with a store in flight; masks, codes and lengths at
and past their ends. -/
theorem witness_TrimsMoveInBothCopies :
    let closed : State := { ready with cst := { ready.cst with closed := true } }
    let busy : State := { closed with cst := { closed.cst with store := some 0 } }
    closed.cst.closed = true ∧ closed.cst.store = none ∧ closed.taker 0 = .addressed ∧ closed.taker 0x80 = .broadcast ∧
    ready.cst.closed = false ∧ ready.taker 0x80 = .broadcast ∧ busy.cst.store.isSome = true ∧ busy.taker 0x83 = .broadcast ∧
    (0x0F : Byte).toNat < 16 ∧ 16 ≤ u8 [0x10, 0] 0 ∧ 5 < u8 [0, 6] 1 ∧ 3 < u8 [4, 0, 0] 0 := by decide

set_option maxRecDepth 20000 in
/-- A staging copy that can be stored with its CRC and with another, one that can't (S of 499); a store at 480 and at 1,440 tu,
read back right and wrong, with a strip whose Z changes. -/
theorem witness_CommitStoresTheStagingCopy :
    let closed : State := { ready with cst := { ready.cst with closed := true } }
    let c := closed.cst.staging
    let edited : CalSet := { c with strip := upd c.strip 4 fun v => { v with z := 5 } }
    let busy (now : Time) : State := { closed with
      siteTime := now, cst := { closed.cst with store := some 0, staging := edited } }
    closed.taker 0 = .addressed ∧ closed.cst.store = none ∧ (∀ (i : Strip) (j : Fin 9), c.strip[i].k[j] ≠ 0) ∧
    (∀ m : Lane, 500 ≤ c.lane[m].spacing ∧ c.lane[m].spacing ≤ 5000) ∧ closed.cst.counter ≠ 4294967295 ∧
    ¬ 500 ≤ ({ c with lane := upd c.lane 1 fun v => { v with spacing := 499 } } : CalSet).lane[(1 : Lane)].spacing ∧
    (busy 480).cst.store = some 0 ∧ ((480 : Time) - 0).toNat = 480 ∧ ((1440 : Time) - 0).toNat = 1440 ∧
    edited.strip[(4 : Strip)].z ≠ closed.cst.working.strip[(4 : Strip)].z ∧
    edited.strip[(5 : Strip)].z = closed.cst.working.strip[(5 : Strip)].z ∧ crc16 [1, 2] ≠ crc16 edited.bytes := by
  decide +kernel

/-- The reset state awaits its load with a probe slot first; the switch input changes to a new position and back, and a position
is due. -/
theorem witness_LoadAndSwitchAreTaken :
    let s := State.reset
    let closing : State := { ready with cst := { ready.cst with calsw := true, calswDue := some 0 } }
    s.loaded = false ∧ s.mcs.flight = none ∧ s.mcs.frame[s.mcs.pos].rule = .probe ∧ 20 ≤ s.mcs.frame[s.mcs.pos].len ∧
    (∀ p : Probe, s.ptu.probe[p].state ≠ .disabled) ∧ 336 ≤ s.cst.nv.slot0.length ∧ ready.loaded = true ∧
    ready.cst.calsw ≠ !ready.cst.closed ∧ closing.cst.calsw ≠ closing.cst.closed ∧
    due closing.cst.calswDue closing.siteTime :=
  ⟨by decide, by decide, by decide, by decide, by decide, by decide +kernel, by decide, by decide, by decide, ⟨0, rfl, by decide⟩⟩

/-- `ready` meets the conditions that steps keep, and has a next step. -/
theorem witness_StepsKeepParametersInRange : ParametersInRange ready ∧ ∃ t, step ready = .next t := by
  refine ⟨⟨?_, by decide, by decide⟩, _, rfl⟩
  intro p k h
  cases p <;> simp only [paramScope, Scope.size] at h
  case slotLen n => revert n; interval_cases k; decide
  case slotRule n => revert n; interval_cases k; decide
  all_goals interval_cases k <;> decide

theorem witness_StepsKeepBaselinesInWindow : BaselinesInWindow ready ∧ ∃ t, step ready = .next t :=
  ⟨⟨by unfold ZeroInRange; decide, by unfold ZeroInRange; decide, by decide⟩, _, rfl⟩

theorem witness_StepsKeepRecordsSound : RecordsSound ready ∧ ∃ t, step ready = .next t :=
  ⟨⟨by decide, by decide, by decide, (fun r h => absurd h (by simp [ready, State.reset, State.atReset, Vrt.reset])), by decide,
    by decide, by decide, by decide, by decide, by decide, by decide, by decide⟩, _, rfl⟩

theorem witness_StepsKeepStripsAndBuffersSound :
    StripsSound ready ∧ BuffersSound ready ∧ ∃ t, step ready = .next t := by
  refine ⟨⟨⟨by decide, by decide, by decide, by decide, by decide, by decide, by decide, by decide⟩, ?_, ?_⟩,
    ⟨by decide, by decide, by decide⟩, _, rfl⟩
  · have h : ∀ i : Strip, ready.scu[i] = Scu.reset := by decide
    intro i
    rw [h i]
    exact ⟨by decide, by decide, by decide, by decide, by decide, by decide, by rintro k ⟨⟩, by decide, by decide, by decide,
      by decide, by decide⟩
  · have h : ∀ i : Strip, ready.shu[i] = Health.reset := by decide
    intro i
    rw [h i]
    exact ⟨by decide, by decide, by decide, by decide, by decide, by decide, by decide⟩

end Sys2Proof.Tests
end

/-! PROOFS. Facts that several statements need: what a test request leaves of the schedule, the condition that a command keeps
a property of the state, and the case split over all commands for such a property, made once. -/

namespace Sys2Proof.Machine

/-! ### What a test request leaves (R48) -/

/-- A test request touches the queue, the entry in flight and the next stamp only. -/
@[simp] theorem Mcs.request_frame (m : Mcs) (i : Strip) (o : Origin) :
    (m.request i o).frame = m.frame ∧
    (m.request i o).pendingFrame = m.pendingFrame ∧
    (m.request i o).pos = m.pos ∧
    (m.request i o).slotDue = m.slotDue ∧
    (m.request i o).work = m.work ∧
    (m.request i o).prev = m.prev ∧
    (m.request i o).pointer = m.pointer ∧
    (m.request i o).strip = m.strip := by
  unfold Mcs.request
  repeat' split
  all_goals simp

/-! ### Commands and a property of the state -/

/-- A property that the command port has no part in. -/
def PortFree (I : State → Prop) : Prop := ∀ (s : State) (c : Cpt), I { s with cpt := c } ↔ I s

section
variable {I : State → Prop} {s t : State} {x : Xfer} {p : List Byte}

theorem PortFree.drive (h : PortFree I) (n : Nat) : I (s.drive n) ↔ I s := h s _

theorem PortFree.release (h : PortFree I) : I s.release ↔ I s := h s _

theorem PortFree.respond (h : PortFree I) (c : Byte) (r : Reply) : I (s.respond c r) ↔ I s := h s _

/-- A host command keeps what its rule keeps. -/
theorem hostCommand_keeps (hI : PortFree I) {code : Byte} {mb : Bool} {run : State → Reply × State}
    (hrun : ∀ u, I u → I (run u).2) (hs : I s) : I (hostCommand code mb x p run s) := by
  cases h : s.taker x.addr with
  | addressed =>
    rw [hostCommand_addressed _ _ _ _ _ _ h, hI.respond]
    exact hrun _ ((hI.drive _).2 hs)
  | broadcast =>
    rw [hostCommand_broadcast _ _ _ _ _ _ h]
    split
    · exact hrun _ (hI.release.2 hs)
    · exact hI.release.2 hs
  | nobody => rw [hostCommand_nobody _ _ _ _ _ _ h]; exact hI.release.2 hs

theorem addressedCommand_keeps (hI : PortFree I) {code : Byte} {run : List Byte → State → Reply × State}
    (hrun : ∀ u, I u → I (run p u).2) (hs : I s) (h : addressedCommand code x p run s = .next t) : I t := by
  cases h
  exact hostCommand_keeps hI hrun hs

/-- A PARAM_WRITE keeps what its owner's rule keeps (R207). -/
theorem paramCommand_keeps (hI : PortFree I) {q : Param} {apply : Applier} {rest : List Byte}
    (happly : ∀ k v u w, I u → apply k v u = some w → I w) (hs : I s) (h : paramCommand q apply x rest s = .next t) :
    I t := by
  refine addressedCommand_keeps hI (fun u hu => ?_) hs h
  obtain ⟨st, e, -⟩ | ⟨w, -, -, -, ha, e⟩ := paramWrite_cases q apply rest u
  · rw [e]; exact hu
  · rw [e]; exact happly _ _ _ _ hu ha

/-- A strip command keeps what its rule keeps on every strip. -/
theorem stripCommand_keeps {run : Strip → Reply × State} (hs : I s) (hrun : ∀ i, I (run i).2) :
    I (stripCommand p s run).2 := by
  obtain e | ⟨i, e⟩ := stripCommand_cases p s run
  · rw [e]; exact hs
  · rw [e]; exact hrun i

theorem whenUnlocked_keeps {run : Reply × State} (hs : I s) (hrun : I run.2) : I (whenUnlocked s run).2 := by
  obtain ⟨-, e⟩ | ⟨-, -, e⟩ | ⟨-, -, e⟩ := whenUnlocked_cases s run
  · rw [e]; exact hs
  · rw [e]; exact hs
  · rw [e]; exact hrun

theorem whenEmpty_keeps {run : Reply × State} (hs : I s) (hrun : I run.2) : I (whenEmpty p s run).2 := by
  unfold whenEmpty
  split
  · exact hrun
  · exact hs

theorem recordCommand_keeps {n : Nat} {run : Record → Reply × State} (hs : I s) (hrun : ∀ r, I (run r).2) :
    I (recordCommand n p s run).2 := by
  obtain e | e | ⟨r, -, -, e⟩ := recordCommand_cases n p s run
  · rw [e]; exact hs
  · rw [e]; exact hs
  · rw [e]; exact hrun r

theorem inState_keeps {r : Record} {st : RecState} {run : Reply × State} (hs : I s) (hrun : I run.2) :
    I (inState r st s run).2 := by
  unfold inState
  split
  · exact hrun
  · exact hs

theorem acceptMark_state (n : Nat) (s : State) : (acceptMark n s).2 = s := by
  unfold acceptMark
  split <;> rfl

end

/-! ### The 31 parameters, one row each (R207) -/

/-- How each parameter takes a written value. -/
def paramApplier : Param → Applier
  | .tOn => applyTOn
  | .tOff => applyTOff
  | .nb => applyNb
  | .noiseLim => applyNoiseLim
  | .azl => applyAzl
  | .azTol => applyAzTol
  | .azStep => applyAzStep
  | .enable => applyEnable
  | .wLr => applyWLr
  | .straddleEn => applyStraddleEn
  | .spdtol => applySpdtol
  | .maxsp => applyMaxsp
  | .maxclose => applyMaxclose
  | .grp => applyGrp
  | .rdt => applyRdt
  | .probeMap => applyProbeMap
  | .probeEn => applyProbeEn
  | .tempHold => applyTempHold
  | .hotTo => applyHotTo
  | .hotTh => applyHotTh
  | .hotMode => applyHotMode
  | .coldTo => applyColdTo
  | .coldTh => applyColdTh
  | .coldMode => applyColdMode
  | .slotLen n => applySlotLen n
  | .slotRule n => applySlotRule n
  | .testLimit => applyTestLimit
  | .testPeriod => applyTestPeriod
  | .missLim => applyMissLim
  | .holdoff => applyHoldoff
  | .attnMask => applyAttnMask

/-! ### Commands that only read, or that act on records, classes, temperatures and trims -/

/-- The limits of a probe's alarm units, the part of a probe that R207 bounds. -/
def ProbeUnit.limits (u : ProbeUnit) : Int × Int × Int × Int := (u.hot.trip, u.hot.hyst, u.cold.trip, u.cold.hyst)

/-- The state t differs from s at most in its times, lane temperatures, contexts, records, classes, trims, store, port and
queue: parameters, strip channels, tests, buffers, strip health, the strips' calibration and the alarm limits are the same. -/
structure SameSite (s t : State) : Prop where
  loaded : t.loaded = s.loaded
  par : t.par = s.par
  scu : t.scu = s.scu
  mcs : t.mcs = s.mcs
  apu : t.apu = s.apu
  shu : t.shu = s.shu
  working : t.cst.working.strip = s.cst.working.strip
  staging : t.cst.staging.strip = s.cst.staging.strip
  limits : ∀ p : Probe, t.ptu.probe[p].limits = s.ptu.probe[p].limits

theorem SameSite.refl (s : State) : SameSite s s := ⟨rfl, rfl, rfl, rfl, rfl, rfl, rfl, rfl, fun _ => rfl⟩

theorem SameSite.portFree (s : State) : PortFree (SameSite s) := fun _ _ =>
  ⟨fun h => ⟨h.loaded, h.par, h.scu, h.mcs, h.apu, h.shu, h.working, h.staging, h.limits⟩,
    fun h => ⟨h.loaded, h.par, h.scu, h.mcs, h.apu, h.shu, h.working, h.staging, h.limits⟩⟩

section
variable {s u t : State} (h : SameSite s u)
include h

/-- A change of times, contexts, records, classes, port and queue. -/
theorem SameSite.of_rest (ht : t = { u with
    siteTime := t.siteTime, vau := t.vau, vrt := t.vrt, cls := t.cls, cpt := t.cpt, pending := t.pending }) :
    SameSite s t := by
  rw [ht]
  exact ⟨h.loaded, h.par, h.scu, h.mcs, h.apu, h.shu, h.working, h.staging, h.limits⟩

/-- A change of the calibration store that leaves the strips' items. -/
theorem SameSite.of_cst (ht : t = { u with cst := t.cst }) (hw : t.cst.working.strip = u.cst.working.strip)
    (hs : t.cst.staging.strip = u.cst.staging.strip) : SameSite s t := by
  rw [ht]
  exact ⟨h.loaded, h.par, h.scu, h.mcs, h.apu, h.shu, hw.trans h.working, hs.trans h.staging, h.limits⟩

theorem SameSite.closeVehicle (n : Lane) : SameSite s (u.closeVehicle n) := by
  apply h.of_rest
  unfold State.closeVehicle
  split <;> rfl

end

/-! The rules of the commands that leave the site as it is. -/

section
variable {s u : State} (h : SameSite s u) (p : List Byte)
include h

theorem nop_sameSite : SameSite s (nop p u).2 := whenEmpty_keeps h h

theorem status_sameSite : SameSite s (status p u).2 :=
  whenEmpty_keeps h (h.of_rest rfl)

theorem paramRead_sameSite : SameSite s (paramRead p u).2 := by
  unfold paramRead
  repeat' split
  all_goals exact h

theorem sync_sameSite : SameSite s (sync p u).2 :=
  whenEmpty_keeps h (h.of_rest rfl)

theorem syncRead_sameSite : SameSite s (syncRead p u).2 := whenEmpty_keeps h h

theorem tempStatus_sameSite : SameSite s (tempStatus p u).2 :=
  whenEmpty_keeps h ⟨h.loaded, h.par, h.scu, h.mcs, h.apu, h.shu, h.working, h.staging, fun q => by
    have hq := h.limits q
    simpa [accept, ProbeUnit.limits, ProbeUnit.seen] using hq⟩

theorem recList_sameSite : SameSite s (recList p u).2 := by
  unfold recList
  repeat' split
  all_goals exact h

theorem recHead_sameSite : SameSite s (recHead p u).2 := recordCommand_keeps h fun _ => h.of_rest rfl

theorem recAxles_sameSite : SameSite s (recAxles p u).2 := by
  simp only [recAxles]
  split
  · exact h
  · refine recordCommand_keeps h fun r => ?_
    split
    · exact h
    · exact h

theorem acceptMark_sameSite (n : Nat) : SameSite s (acceptMark n u).2 := by rw [acceptMark_state]; exact h

theorem recHold_sameSite : SameSite s (recHold p u).2 := by
  refine recordCommand_keeps h fun r => ?_
  repeat' split
  · exact acceptMark_sameSite h _
  · exact acceptMark_sameSite (h.of_rest rfl) _
  · exact h

theorem recRelease_sameSite : SameSite s (recRelease p u).2 :=
  recordCommand_keeps h fun _ => acceptMark_sameSite (h.of_rest rfl) _

theorem recTag_sameSite : SameSite s (recTag p u).2 := by
  unfold recTag
  split
  · exact h
  · exact recordCommand_keeps h fun _ => acceptMark_sameSite (h.of_rest rfl) _

theorem recClose_sameSite : SameSite s (recClose p u).2 := by
  refine recordCommand_keeps h fun r => inState_keeps h ?_
  simp only
  split
  · exact h.of_rest rfl
  · exact h

theorem recRetire_sameSite : SameSite s (recRetire p u).2 :=
  recordCommand_keeps h fun _ => inState_keeps h (h.of_rest rfl)

theorem recReclass_sameSite : SameSite s (recReclass p u).2 :=
  recordCommand_keeps h fun _ => inState_keeps h (h.of_rest rfl)

theorem recMerge_sameSite : SameSite s (recMerge p u).2 := by
  simp only [recMerge]
  repeat' split
  case h_1.isFalse.isFalse.isFalse => exact h.of_rest rfl
  all_goals exact h

theorem recSplit_sameSite : SameSite s (recSplit p u).2 := by
  simp only [recSplit]
  split
  · exact h
  · refine recordCommand_keeps h fun a => inState_keeps h ?_
    repeat' split
    · exact h
    · exact h
    · exact h.of_rest rfl

theorem classWrite_sameSite : SameSite s (classWrite p u).2 := by
  unfold classWrite
  repeat' split
  · exact h.of_rest rfl
  · exact h
  · exact h

theorem classClear_sameSite : SameSite s (classClear p u).2 := whenEmpty_keeps h (h.of_rest rfl)

theorem classRead_sameSite : SameSite s (classRead p u).2 := by
  unfold classRead
  repeat' split
  all_goals exact h

theorem classSwap_sameSite : SameSite s (classSwap p u).2 := whenEmpty_keeps h (h.of_rest rfl)

theorem calRead_sameSite : SameSite s (calRead p u).2 := by
  unfold calRead
  repeat' split
  all_goals exact h

theorem calCommit_sameSite : SameSite s (calCommit p u).2 := by
  refine whenUnlocked_keeps h ?_
  repeat' split
  · exact h
  · exact h
  · exact h.of_cst rfl rfl rfl

theorem trimSet_sameSite : SameSite s (trimSet p u).2 := by
  refine whenUnlocked_keeps h ?_
  repeat' split
  · exact h
  · exact h.of_cst rfl rfl rfl
  · exact h

theorem trimStep_sameSite : SameSite s (trimStep p u).2 := by
  refine whenUnlocked_keeps h ?_
  repeat' split
  · exact h
  · exact h.of_cst rfl rfl rfl
  · exact h
  · exact h

end

theorem unknownCmd_sameSite {bytes : List Byte} {s t : State} (h : execUnknownCmd bytes s = .next t) : SameSite s t := by
  simp only [execUnknownCmd, State.badFrame] at h
  repeat' split at h
  all_goals cases h
  all_goals exact (SameSite.refl s).of_rest rfl

theorem nopRepeat_sameSite {x : Xfer} {s t : State} (h : execNopRepeat x s = .next t) : SameSite s t := by
  cases h
  split
  all_goals exact (SameSite.refl s).of_rest rfl

theorem closeDeadlineExpiry_sameSite {n : Lane} {s t : State} (h : execCloseDeadlineExpiry n s = .next t) :
    SameSite s t := by
  cases h
  split
  · exact (SameSite.refl s).closeVehicle n
  · exact .refl s

theorem holdTimerExpiry_sameSite {n : Lane} {s t : State} (h : execHoldTimerExpiry n s = .next t) : SameSite s t := by
  cases h
  split
  · exact ⟨rfl, rfl, rfl, rfl, rfl, rfl, rfl, rfl, fun _ => rfl⟩
  · exact .refl s

theorem switchPositionTaken_sameSite {s t : State} (h : execSwitchPositionTaken s = .next t) : SameSite s t := by
  cases h
  split
  · exact (SameSite.refl s).of_cst rfl rfl rfl
  · exact .refl s

theorem calswInputChange_sameSite {closed : Bool} {s t : State} (h : execCalswInputChange closed s = .next t) :
    SameSite s t := by
  cases h
  split
  · exact .refl s
  · exact (SameSite.refl s).of_cst rfl rfl rfl

/-! ### The case split over all commands, made once -/

/-- What a property must keep so that every command keeps it: it sees of the state no more than `SameSite` compares, and it is
kept by the rules of the parameters, of the strip channels, tests, buffers and strip health, of the store and by the resets. -/
structure Kept (I : State → Prop) : Prop where
  same : ∀ {s t : State}, SameSite s t → I s → I t
  applied : ∀ (p : Param) (k : Nat) (v : Int) {s t : State}, I s → paramApplier p k v s = some t → I t
  sampled : ∀ {s : State} (i : Strip) (code : BitVec 16), I s → I (s.takeSample i code)
  autoZeroStep : ∀ {s t : State} (i : Strip), I s → execAutoZeroStep i s = .next t → I t
  pinnedTimer : ∀ {s t : State} (i : Strip), I s → execPinnedTimerExpiry i s = .next t → I t
  standingTimer : ∀ {s t : State} (i : Strip), I s → execStandingTimerExpiry i s = .next t → I t
  noiseWindow : ∀ {s t : State} (i : Strip), I s → execNoiseWindowEnd i s = .next t → I t
  pulseArrival : ∀ {s t : State} (i : Strip), I s → execPulseArrival i s = .next t → I t
  loneExpiry : ∀ {s t : State} (i : Strip) (k : Fin 4), I s → execLoneExpiry i k s = .next t → I t
  entryExpiry : ∀ {s t : State} (n : Lane) (k : Fin 4), I s → execEntryExpiry n k s = .next t → I t
  slotBoundary : ∀ {s t : State} (code : BitVec 16), I s → execSlotBoundary code s = .next t → I t
  periodicTimer : ∀ {s t : State} (i : Strip), I s → execPeriodicTimerExpiry i s = .next t → I t
  holdoff : ∀ {s t : State} (i : Strip), I s → execHoldoffExpiry i s = .next t → I t
  storeCompletion : ∀ {s t : State} (bytes : List Byte), I s → execStoreCompletion bytes s = .next t → I t
  deviceReset : ∀ (node : BitVec 2) (nv : Nonvolatile) (calsw : Bool) (pending : List Instr),
    I (State.atReset node nv calsw pending)
  loadCompletion : ∀ {s t : State}, I s → execLoadCompletion s = .next t → I t
  counterRead : ∀ {s : State} (p : List Byte), I s → I (counterRead p s).2
  trafficReset : ∀ {s : State}, I s → I s.trafficReset
  stripRemove : ∀ {s : State} (p : List Byte), I s → I (stripRemove p s).2
  stripRestore : ∀ {s : State} (p : List Byte), I s → I (stripRestore p s).2
  stripTest : ∀ {s : State} (p : List Byte), I s → I (stripTest p s).2
  stripStatus : ∀ {s : State} (p : List Byte), I s → I (stripStatus p s).2
  staged : ∀ {s : State} (i : Strip) (item : List Byte), I s →
    I (s.stage { s.cst.staging with strip := upd s.cst.staging.strip i fun _ => stripItem item 0 })
  calLoad : ∀ {s : State}, I s → I (s.stage s.cst.working)

section
variable {I : State → Prop} (hI : Kept I) {s t : State}
include hI

theorem Kept.portFree : PortFree I := fun s _ =>
  ⟨hI.same ((SameSite.refl _).of_rest rfl),
    hI.same ((SameSite.refl s).of_rest rfl)⟩

/-- A host command whose rule leaves the site as it is. -/
theorem Kept.host_of_sameSite {code : Byte} {mb : Bool} {x : Xfer} {p : List Byte} {run : State → Reply × State}
    (hs : I s) (hrun : ∀ u, SameSite s u → SameSite s (run u).2) : I (hostCommand code mb x p run s) :=
  hI.same (hostCommand_keeps (SameSite.portFree s) hrun (.refl s)) hs

theorem Kept.sampleRow (k : SampleKind) (i : Strip) (code : BitVec 16) (hs : I s) : I (s.sampleRow k i code) := by
  unfold State.sampleRow
  split
  · exact hI.sampled i code hs
  · exact hs

/-- A CAL_WRITE of a lane's item leaves the strips' items; one of a strip's item stages it (R187). -/
theorem Kept.calWrite (p : List Byte) (hs : I s) : I (calWrite p s).2 := by
  refine whenUnlocked_keeps hs ?_
  split
  · exact hs
  · split
    · split
      · exact hI.staged _ _ hs
      · exact hs
    · simp only
      split
      · exact hI.same ((SameSite.refl s).of_cst rfl rfl rfl) hs
      · exact hs
    · exact hs

/-- Every command keeps such a property. -/
theorem Kept.exec {c : Instr} (hs : I s) (h : exec c s = .next t) : I t := by
  have param (q : Param) {x : Xfer} {rest : List Byte} (h : paramCommand q (paramApplier q) x rest s = .next t) : I t :=
    paramCommand_keeps hI.portFree (fun k v _ _ hu ha => hI.applied q k v hu ha) hs h
  have host {code : Byte} {x : Xfer} {p : List Byte} {run : List Byte → State → Reply × State}
      (hrun : ∀ u, I u → I (run p u).2) (h : addressedCommand code x p run s = .next t) : I t :=
    addressedCommand_keeps hI.portFree hrun hs h
  have quiet {code : Byte} {mb : Bool} {x : Xfer} {p : List Byte} {run : State → Reply × State}
      (h : (.next (hostCommand code mb x p run s) : Host.Outcome State Fault Refusal) = .next t)
      (hrun : ∀ u, SameSite s u → SameSite s (run u).2) : I t := by
    cases h
    exact hI.host_of_sameSite hs hrun
  cases c with
  | sample i code =>
    cases h
    split
    · exact hI.sampled i code hs
    · exact hs
  | normalEnd i code | longCut i code | standingEnd i code | settlingEnd i code => cases h; exact hI.sampleRow _ i code hs
  | autoZeroStep i => exact hI.autoZeroStep i hs h
  | pinnedTimerExpiry i => exact hI.pinnedTimer i hs h
  | standingTimerExpiry i => exact hI.standingTimer i hs h
  | noiseWindowEnd i => exact hI.noiseWindow i hs h
  | pulseArrival i => exact hI.pulseArrival i hs h
  | loneExpiry i k => exact hI.loneExpiry i k hs h
  | entryExpiry n k => exact hI.entryExpiry n k hs h
  | closeDeadlineExpiry n => exact hI.same (closeDeadlineExpiry_sameSite h) hs
  | slotBoundary code => exact hI.slotBoundary code hs h
  | periodicTimerExpiry i => exact hI.periodicTimer i hs h
  | holdTimerExpiry n => exact hI.same (holdTimerExpiry_sameSite h) hs
  | holdoffExpiry i => exact hI.holdoff i hs h
  | storeCompletion bytes => exact hI.storeCompletion bytes hs h
  | switchPositionTaken => exact hI.same (switchPositionTaken_sameSite h) hs
  | deviceReset straps cut => cases h; exact hI.deviceReset _ _ _ _
  | loadCompletion => exact hI.loadCompletion hs h
  | unknownCmd bytes => exact hI.same (unknownCmd_sameSite h) hs
  | nop x p => exact quiet h fun _ hu => nop_sameSite hu p
  | nopRepeat x => exact hI.same (nopRepeat_sameSite h) hs
  | status x p => exact quiet h fun _ hu => status_sameSite hu p
  | paramRead x p => exact quiet h fun _ hu => paramRead_sameSite hu p
  | tOn x rest => exact param .tOn h
  | tOff x rest => exact param .tOff h
  | nb x rest => exact param .nb h
  | noiseLim x rest => exact param .noiseLim h
  | azl x rest => exact param .azl h
  | azTol x rest => exact param .azTol h
  | azStep x rest => exact param .azStep h
  | enable x rest => exact param .enable h
  | wLr x rest => exact param .wLr h
  | straddleEn x rest => exact param .straddleEn h
  | spdtol x rest => exact param .spdtol h
  | maxsp x rest => exact param .maxsp h
  | maxclose x rest => exact param .maxclose h
  | grp x rest => exact param .grp h
  | rdt x rest => exact param .rdt h
  | probeMap x rest => exact param .probeMap h
  | probeEn x rest => exact param .probeEn h
  | tempHold x rest => exact param .tempHold h
  | hotTo x rest => exact param .hotTo h
  | hotTh x rest => exact param .hotTh h
  | hotMode x rest => exact param .hotMode h
  | coldTo x rest => exact param .coldTo h
  | coldTh x rest => exact param .coldTh h
  | coldMode x rest => exact param .coldMode h
  | slotLen n x rest => exact param (.slotLen n) h
  | slotRule n x rest => exact param (.slotRule n) h
  | testLimit x rest => exact param .testLimit h
  | testPeriod x rest => exact param .testPeriod h
  | missLim x rest => exact param .missLim h
  | holdoff x rest => exact param .holdoff h
  | attnMask x rest => exact param .attnMask h
  | counterRead x p => exact host (fun _ hu => hI.counterRead p hu) h
  | sync x p => exact quiet h fun _ hu => sync_sameSite hu p
  | syncRead x p => exact quiet h fun _ hu => syncRead_sameSite hu p
  | trafficReset x p => exact host (fun _ hu => whenEmpty_keeps hu (hI.trafficReset hu)) h
  | recList x p => exact quiet h fun _ hu => recList_sameSite hu p
  | recHead x p => exact quiet h fun _ hu => recHead_sameSite hu p
  | recAxles x p => exact quiet h fun _ hu => recAxles_sameSite hu p
  | recHold x p => exact quiet h fun _ hu => recHold_sameSite hu p
  | recRelease x p => exact quiet h fun _ hu => recRelease_sameSite hu p
  | recTag x p => exact quiet h fun _ hu => recTag_sameSite hu p
  | recClose x p => exact quiet h fun _ hu => recClose_sameSite hu p
  | recRetire x p => exact quiet h fun _ hu => recRetire_sameSite hu p
  | recReclass x p => exact quiet h fun _ hu => recReclass_sameSite hu p
  | recMerge x p => exact quiet h fun _ hu => recMerge_sameSite hu p
  | recSplit x p => exact quiet h fun _ hu => recSplit_sameSite hu p
  | classWrite x p => exact quiet h fun _ hu => classWrite_sameSite hu p
  | classClear x p => exact quiet h fun _ hu => classClear_sameSite hu p
  | classRead x p => exact quiet h fun _ hu => classRead_sameSite hu p
  | classSwap x p => exact quiet h fun _ hu => classSwap_sameSite hu p
  | stripRemove x p => exact host (fun _ hu => hI.stripRemove p hu) h
  | stripRestore x p => exact host (fun _ hu => hI.stripRestore p hu) h
  | stripTest x p => exact host (fun _ hu => hI.stripTest p hu) h
  | stripStatus x p => exact host (fun _ hu => hI.stripStatus p hu) h
  | tempStatus x p => exact quiet h fun _ hu => tempStatus_sameSite hu p
  | calWrite x p => exact host (fun _ hu => hI.calWrite p hu) h
  | calLoad x p => exact host (fun _ hu => whenUnlocked_keeps hu (whenEmpty_keeps hu (hI.calLoad hu))) h
  | calRead x p => exact quiet h fun _ hu => calRead_sameSite hu p
  | calCommit x p => exact quiet h fun _ hu => calCommit_sameSite hu p
  | trimSet x p => exact quiet h fun _ hu => trimSet_sameSite hu p
  | trimStep x p => exact quiet h fun _ hu => trimStep_sameSite hu p
  | calswInputChange closed => exact hI.same (calswInputChange_sameSite h) hs

/-- Every step keeps such a property: the queue of waiting commands and site time are no part of it. -/
theorem Kept.step (hs : I s) (h : step s = .next t) : I t := by
  unfold Machine.step at h
  split at h
  next c rest _ =>
    exact hI.exec (s := { s with pending := rest }) (hI.same ((SameSite.refl s).of_rest rfl) hs) h
  next =>
    cases h
    unfold State.idle
    split
    all_goals exact hI.same ((SameSite.refl s).of_rest rfl) hs

end

end Sys2Proof.Machine

/-! PROOFS. What the events of the axle pairing unit keep: the buffers lose and gain entries, misses and contributions are
reported, axles are handed over. The walk through the operations of chapter 4 is made once, for any property that these few moves
keep. -/

namespace Sys2Proof.Machine

/-! ### Buffers lose and gain entries -/

theorem takeWithin_sublist {mid : Time} {w : Nat} {l rest : List Waiting} {q : PulseRecord}
    (h : takeWithin mid w l = some (q, rest)) : rest.Sublist l := by
  induction l generalizing rest with
  | nil => cases h
  | cons x xs ih =>
    simp only [takeWithin] at h
    split at h
    · cases h; exact List.sublist_cons_self x xs
    · cases e : takeWithin mid w xs with
      | none => simp [e] at h
      | some a =>
        simp only [e, Option.map_some, Option.some.injEq, Prod.mk.injEq] at h
        obtain ⟨rfl, rfl⟩ := h
        exact (ih e).cons_cons x

theorem takeTransit_spec {i : Strip} {l rest : List PulseRecord} {r : PulseRecord}
    (h : takeTransit i l = some (r, rest)) : r ∈ l ∧ r.strip = i ∧ rest.Sublist l := by
  induction l generalizing rest with
  | nil => cases h
  | cons x xs ih =>
    simp only [takeTransit] at h
    split at h
    next hx => cases h; exact ⟨List.mem_cons_self, hx, List.sublist_cons_self r xs⟩
    next =>
      cases e : takeTransit i xs with
      | none => simp [e] at h
      | some a =>
        simp only [e, Option.map_some, Option.some.injEq, Prod.mk.injEq] at h
        obtain ⟨rfl, rfl⟩ := h
        obtain ⟨hm, hs, hr⟩ := ih e
        exact ⟨List.mem_cons_of_mem x hm, hs, hr.cons_cons x⟩

theorem insertEntry_perm (now : Time) (e : QueueEntry) (l : List QueueEntry) : (insertEntry now e l).Perm (e :: l) := by
  induction l with
  | nil => exact .refl _
  | cons q qs ih =>
    simp only [insertEntry]
    split
    · exact .refl _
    · exact (ih.cons q).trans (.swap e q qs)

/-- The entries behind a match are entries of the queue. -/
theorem splitAtMatch_behind {d : RowHit} {l ahead behind : List QueueEntry} {m : QueueEntry}
    (h : splitAtMatch d l = some (ahead, m, behind)) : l = ahead ++ m :: behind := by
  induction l generalizing ahead with
  | nil => cases h
  | cons e es ih =>
    simp only [splitAtMatch] at h
    split at h
    · cases h; rfl
    · cases hs : splitAtMatch d es with
      | none => simp [hs] at h
      | some a =>
        simp only [hs, Option.map_some, Option.some.injEq, Prod.mk.injEq] at h
        obtain ⟨rfl, rfl, rfl⟩ := h
        rw [List.cons_append, ← ih hs]

/-! ### The moves of the axle pairing unit -/

/-- A property that is kept by the moves of which every event of the axle pairing unit consists. -/
structure KeptByPairing (I : State → Prop) : Prop where
  miss : ∀ {s : State} (i : Strip), I s → I (s.miss i)
  contribution : ∀ {s : State} (i : Strip), I s → I (s.contribution i)
  handOver : ∀ {s : State} (c : Candidate), I s → I (s.handOver c)
  orphan : ∀ {s : State} (n : Lane), I s → I (s.orphan n)
  /-- Pulses leave a side buffer. -/
  sideLoses : ∀ {s : State} (i : Strip) {w : List Waiting}, I s → w.Sublist s.apu.side[i] → I (s.setSide i w)
  /-- Entries leave a pairing queue, upstream hits of the lane enter it, and it does not overflow (R72). -/
  queueMoves : ∀ {s : State} (n : Lane) {q : List QueueEntry}, I s →
    (∀ e ∈ q, e ∈ s.apu.queue[n] ∨ (e.hit.lane = n ∧ e.hit.row = .up)) →
    (s.apu.queue[n].length ≤ 4 → q.length ≤ 4) → I (s.setQueue n q)
  /-- A record leaves the transit. -/
  transitLoses : ∀ {s : State} {l : List PulseRecord}, I s → l.Sublist s.apu.transit →
    I { s with apu := { s.apu with transit := l } }
  /-- A record leaves the transit for its strip's side buffer, which does not overflow (R60, R61, R66). -/
  sideTakes : ∀ {s : State} {l : List PulseRecord} {w : Waiting} {q : List Waiting}, I s → l.Sublist s.apu.transit →
    w.pulse ∈ s.apu.transit → q.Sublist (s.apu.side[w.pulse.strip] ++ [w]) →
    (s.apu.side[w.pulse.strip].length ≤ 4 → q.length ≤ 4) →
    I (({ s with apu := { s.apu with transit := l } } : State).setSide w.pulse.strip q)

section
variable {I : State → Prop} (hI : KeptByPairing I) {s t : State}
include hI

theorem KeptByPairing.missReport (i : Strip) (ref : Time) (hs : I s) : I (s.missReport i ref) := by
  unfold State.missReport
  split
  · exact hs
  · exact hI.miss i hs

theorem KeptByPairing.rowMisses (n : Lane) (r : Row) (h : RowHit) (ref : Time) (hs : I s) : I (s.rowMisses n r h ref) := by
  unfold State.rowMisses
  split
  · exact hI.missReport _ _ hs
  · exact hI.missReport _ _ (hI.missReport _ _ hs)

theorem KeptByPairing.upstreamOnly (n : Lane) (e : QueueEntry) (hs : I s) : I (s.upstreamOnly n e) := by
  simp only [State.upstreamOnly]
  split
  · exact hI.handOver _ (hI.rowMisses _ _ _ _ hs)
  · exact hI.orphan _ (hI.rowMisses _ _ _ _ hs)

theorem KeptByPairing.downstreamOnly (n : Lane) (d : RowHit) (hs : I s) : I (s.downstreamOnly n d) := by
  simp only [State.downstreamOnly]
  split
  · exact hI.handOver _ (hI.rowMisses _ _ _ _ hs)
  · exact hI.orphan _ (hI.rowMisses _ _ _ _ hs)

theorem KeptByPairing.enterQueue (h : RowHit) (hrow : h.row = .up) (hs : I s) : I (s.enterQueue h) := by
  simp only [State.enterQueue]
  split
  · exact hI.upstreamOnly _ _ hs
  · split
    next oldest rest hq =>
      have hperm := insertEntry_perm s.siteTime ⟨h, (s.window h.lane).1, (s.window h.lane).2⟩ s.apu.queue[h.lane]
      rw [hq] at hperm
      have hlen := hperm.length_eq
      have hmem : ∀ e ∈ oldest :: rest, e ∈ s.apu.queue[h.lane] ∨ (e.hit.lane = h.lane ∧ e.hit.row = .up) := by
        intro e he
        obtain rfl | he := List.mem_cons.1 (hperm.mem_iff.1 he)
        · exact .inr ⟨rfl, hrow⟩
        · exact .inl he
      simp only [List.length_cons] at hlen
      have hsize : Config.bufferSize = 4 := rfl
      split
      · refine hI.upstreamOnly _ _ (hI.queueMoves _ hs (fun e he => hmem e (List.mem_cons_of_mem _ he)) ?_)
        omega
      · refine hI.queueMoves _ hs hmem ?_
        simp only [List.length_cons]
        omega
    next => exact hs

theorem KeptByPairing.upstreamFold (l : List QueueEntry) (n : Lane) (hs : I s) :
    I (l.foldl (fun s a => s.upstreamOnly n a) s) := by
  induction l generalizing s with
  | nil => exact hs
  | cons a l ih => exact ih (hI.upstreamOnly n a hs)

theorem KeptByPairing.matchDownstream (d : RowHit) (hs : I s) : I (s.matchDownstream d) := by
  simp only [State.matchDownstream]
  split
  next ahead e behind hsplit =>
    have hl := splitAtMatch_behind hsplit
    refine hI.handOver _ (hI.upstreamFold _ _ (hI.queueMoves _ hs (fun x hx => .inl ?_) ?_))
    · rw [hl]; simp [hx]
    · rw [hl]; simp only [List.length_append, List.length_cons]; omega
  next => exact hI.downstreamOnly _ _ hs

theorem KeptByPairing.routeHit (h : RowHit) (hs : I s) : I (s.routeHit h) := by
  unfold State.routeHit
  split
  next hr => exact hI.enterQueue h hr hs
  next => exact hI.matchDownstream h hs

theorem KeptByPairing.pairHit (a b : PulseRecord) (h : RowHit) (hs : I s) : I (s.pairHit a b h) :=
  hI.routeHit _ (hI.contribution _ (hI.contribution _ hs))

theorem KeptByPairing.halfHit (r : PulseRecord) (hs : I s) : I (s.halfHit r) := by
  simp only [State.halfHit]
  split
  · exact hI.routeHit _ (hI.missReport _ _ (hI.contribution _ hs))
  · exact hI.routeHit _ (hI.contribution _ hs)

theorem KeptByPairing.resolveLone (r : PulseRecord) (hs : I s) : I (s.resolveLone r) := by
  simp only [State.resolveLone]
  split
  · exact hI.halfHit r hs
  · split
    · split
      next htake => exact hI.pairHit _ _ _ (hI.sideLoses _ hs (takeWithin_sublist htake))
      next => exact hI.halfHit r hs
    · exact hI.halfHit r hs

/-- A record that has left the transit pairs or waits (R61). -/
theorem KeptByPairing.arrives {r : PulseRecord} {l : List PulseRecord} (hr : r ∈ s.apu.transit)
    (hl : l.Sublist s.apu.transit) (hs : I s) :
    I (({ s with apu := { s.apu with transit := l } } : State).pulseArrives r) := by
  simp only [State.pulseArrives]
  split
  next htake => exact hI.pairHit _ _ _ (hI.sideLoses _ (hI.transitLoses hs hl) (takeWithin_sublist htake))
  next =>
    simp only [State.waitSide]
    split
    next head rest hq =>
      have hlen : s.apu.side[r.strip].length + 1 = rest.length + 1 := by simpa using congrArg List.length hq
      have hsize : Config.bufferSize = 4 := rfl
      split
      · refine hI.resolveLone _ (hI.sideTakes (w := ⟨r, loneExpiry r s.par.lane[laneOf r.strip].wLr⟩) hs hl hr ?_ ?_)
        · rw [hq]; exact List.sublist_cons_self head rest
        · show s.apu.side[r.strip].length ≤ 4 → _
          omega
      · refine hI.sideTakes (w := ⟨r, loneExpiry r s.par.lane[laneOf r.strip].wLr⟩) hs hl hr ?_ ?_
        · rw [hq]
        · simp only [List.length_cons]
          omega
    next => exact hI.transitLoses hs hl

theorem KeptByPairing.pulseArrival (i : Strip) (hs : I s) (h : execPulseArrival i s = .next t) : I t := by
  cases h
  split
  next htake =>
    obtain ⟨hr, -, hl⟩ := takeTransit_spec htake
    exact hI.arrives hr hl hs
  next => exact hs

theorem KeptByPairing.loneExpiry (i : Strip) (k : Fin 4) (hs : I s) (h : execLoneExpiry i k s = .next t) : I t := by
  cases h
  split
  · split
    · exact hI.resolveLone _ (hI.sideLoses i hs (List.eraseIdx_sublist _ _))
    · exact hs
  · exact hs

theorem KeptByPairing.entryExpiry (n : Lane) (k : Fin 4) (hs : I s) (h : execEntryExpiry n k s = .next t) : I t := by
  cases h
  split
  · split
    · have hsub := List.eraseIdx_sublist s.apu.queue[n] k.val
      exact hI.upstreamOnly _ _ (hI.queueMoves n hs (fun e he => .inl (hsub.subset he)) (hsub.length_le.trans ·))
    · exact hs
  · exact hs

end

/-- An axle handed over moves contexts, records and the port only (R104). -/
theorem State.handOver_sameSite (s : State) (c : Candidate) : SameSite s (s.handOver c) := by
  constructor <;> simp

/-! ### Steady steps: parameters, schedule and baselines stand -/

/-- The parameters, the alarm limits, the frames with the slot position, the strips' calibration and the baselines of t are
those of s. -/
structure Steady (s t : State) : Prop where
  par : t.par = s.par
  limits : ∀ p : Probe, t.ptu.probe[p].limits = s.ptu.probe[p].limits
  frame : t.mcs.frame = s.mcs.frame
  pending : t.mcs.pendingFrame = s.mcs.pendingFrame
  pos : t.mcs.pos = s.mcs.pos
  working : t.cst.working.strip = s.cst.working.strip
  staging : t.cst.staging.strip = s.cst.staging.strip
  base : ∀ i : Strip, t.scu[i].base = s.scu[i].base

theorem Steady.refl (s : State) : Steady s s := ⟨rfl, fun _ => rfl, rfl, rfl, rfl, rfl, rfl, fun _ => rfl⟩

theorem Steady.trans {s t u : State} (h : Steady s t) (k : Steady t u) : Steady s u :=
  ⟨k.par.trans h.par, fun p => (k.limits p).trans (h.limits p), k.frame.trans h.frame, k.pending.trans h.pending,
    k.pos.trans h.pos, k.working.trans h.working, k.staging.trans h.staging, fun i => (k.base i).trans (h.base i)⟩

theorem SameSite.steady {s t : State} (h : SameSite s t) : Steady s t :=
  ⟨h.par, h.limits, by rw [h.mcs], by rw [h.mcs], by rw [h.mcs], h.working, h.staging, fun i => by rw [h.scu]⟩

/-- A change of one strip channel that leaves its baseline. -/
theorem State.updScu_steady (s : State) (i : Strip) (f : Scu → Scu) (hf : (f s.scu[i]).base = s.scu[i].base) :
    Steady s (s.updScu i f) := by
  refine ⟨rfl, fun _ => rfl, rfl, rfl, rfl, rfl, rfl, fun j => ?_⟩
  simp only [State.updScu_scu, upd_get]
  split
  next e => subst e; exact hf
  next => rfl

theorem State.updShu_steady (s : State) (i : Strip) (f : Health → Health) : Steady s (s.updShu i f) :=
  ⟨rfl, fun _ => rfl, rfl, rfl, rfl, rfl, rfl, fun _ => rfl⟩

theorem State.updTests_steady (s : State) (i : Strip) (f : StripTests → StripTests) : Steady s (s.updTests i f) :=
  ⟨rfl, fun _ => rfl, rfl, rfl, rfl, rfl, rfl, fun _ => rfl⟩

theorem State.apu_steady (s : State) (a : Apu) : Steady s { s with apu := a } :=
  ⟨rfl, fun _ => rfl, rfl, rfl, rfl, rfl, rfl, fun _ => rfl⟩

theorem State.request_steady (s : State) (i : Strip) (o : Origin) : Steady s (s.request i o) :=
  ⟨rfl, fun _ => rfl, by simp, by simp, by simp, rfl, rfl, fun _ => rfl⟩

theorem State.reevaluate_steady (s : State) (i : Strip) : Steady s (s.reevaluate i) := by
  unfold State.reevaluate
  split
  · exact (s.updShu_steady i _).trans (State.request_steady _ _ _)
  · exact s.updShu_steady i _
  · exact .refl s

theorem State.evidence_steady (s : State) (i : Strip) (f : Causes → Causes) : Steady s (s.evidence i f) := by
  unfold State.evidence
  split
  · exact .refl s
  · exact (s.updShu_steady i _).trans (State.reevaluate_steady _ _)

theorem State.takeOut_steady (s : State) (i : Strip) : Steady s (s.takeOut i) :=
  ((s.updShu_steady i _).trans (State.updScu_steady _ i _ rfl)).trans (State.apu_steady _ _)

theorem State.failOut_steady (s : State) (i : Strip) : Steady s (s.failOut i) :=
  (s.takeOut_steady i).trans (State.updShu_steady _ i _)

theorem State.miss_steady (s : State) (i : Strip) : Steady s (s.miss i) := by
  simp only [State.miss]
  repeat' split
  · exact s.updShu_steady i _
  · exact (s.updShu_steady i _).trans (State.failOut_steady _ i)
  · exact s.updShu_steady i _
  · exact (s.updShu_steady i _).trans (State.reevaluate_steady _ i)
  · exact .refl s

theorem State.contribution_steady (s : State) (i : Strip) : Steady s (s.contribution i) := by
  unfold State.contribution
  split
  · exact (s.updShu_steady i _).trans (State.evidence_steady _ i _)
  · exact .refl s

theorem State.clearPinned_steady (s : State) (i : Strip) : Steady s (s.clearPinned i) :=
  (s.updScu_steady i _ rfl).trans (State.evidence_steady _ i _)

theorem Steady.keptByPairing (s₀ : State) : KeptByPairing (Steady s₀) where
  miss i h := h.trans (State.miss_steady _ i)
  contribution i h := h.trans (State.contribution_steady _ i)
  handOver c h := h.trans (State.handOver_sameSite _ c).steady
  orphan _ h := h.trans (State.apu_steady _ _)
  sideLoses _ _ h _ := h.trans (State.apu_steady _ _)
  queueMoves _ _ h _ _ := h.trans (State.apu_steady _ _)
  transitLoses h _ := h.trans (State.apu_steady _ _)
  sideTakes h _ _ _ _ := h.trans (State.apu_steady _ _)

/-- A test abort moves the test queue and the connection of its strip (R55). -/
theorem State.abortTest_steady (s : State) (f : Flight) : Steady s (s.abortTest f) :=
  ⟨rfl, fun _ => rfl, rfl, rfl, rfl, rfl, rfl,
    (s.updScu_steady f.entry.strip (fun u => { u with conn := .settling 0 }) rfl).base⟩

theorem State.pulseStart_steady (s : State) (n : Lane) : Steady s (s.pulseStart n) := by
  simp only [State.pulseStart]
  repeat' split
  · exact (s.abortTest_steady _).trans ⟨rfl, fun _ => rfl, rfl, rfl, rfl, rfl, rfl, fun _ => rfl⟩
  · exact .refl s
  · exact .refl s

theorem State.deliver_steady (s : State) (r : PulseRecord) (d : Bool) : Steady s (s.deliver r d) := by
  unfold State.deliver
  split
  · exact .refl s
  · exact s.apu_steady _

theorem State.pulseSample_steady (s : State) (i : Strip) (p : PulseCtx) (d : Int) (clip : Bool) :
    Steady s (s.pulseSample i p d clip) := by
  simp only [State.pulseSample]
  repeat' split
  · exact ((s.updScu_steady i _ rfl).trans (State.evidence_steady _ i _)).trans (State.deliver_steady _ _ _)
  · exact (s.updScu_steady i _ rfl).trans (State.deliver_steady _ _ _)
  · exact s.updScu_steady i _ rfl

theorem State.standingSample_steady (s : State) (i : Strip) (st : Standing) (d : Int) :
    Steady s (s.standingSample i st d) := by
  unfold State.standingSample
  repeat' split
  all_goals exact s.updScu_steady i _ rfl

theorem Scu.idleSample_base (u : Scu) (nb : Nat) (x d : Int) : (u.idleSample nb x d).base = u.base := by
  unfold Scu.idleSample
  simp only
  split <;> rfl

theorem State.restSample_steady (s : State) (i : Strip) (x d : Int) (clip : Bool) :
    Steady s (s.restSample i x d clip) := by
  simp only [State.restSample]
  split
  · exact (s.updScu_steady i _ rfl).trans (State.pulseStart_steady _ _)
  · refine s.updScu_steady i _ ?_
    simp only
    split
    · exact Scu.idleSample_base _ _ _ _
    · rfl

theorem State.settlingSample_steady (s : State) (i : Strip) (k : Nat) : Steady s (s.settlingSample i k) := by
  unfold State.settlingSample
  split
  all_goals exact s.updScu_steady i _ rfl

theorem State.takeSample_steady (s : State) (i : Strip) (code : BitVec 16) : Steady s (s.takeSample i code) := by
  simp only [State.takeSample]
  split
  · have h := s.updScu_steady i (fun u => { u with recentWin := pushWindow u.recentWin (sampleCode code) }) rfl
    split
    · exact h.trans (State.pulseSample_steady _ _ _ _ _)
    · exact h.trans (State.standingSample_steady _ _ _ _)
    · exact h.trans (State.restSample_steady _ _ _ _ _)
  · split
    · exact s.settlingSample_steady i _
    · exact .refl s

/-- All that a test result can do (R169): nothing for a DISABLED strip; the consecutive-fail count and TEST_FAIL as evidence, or
out of service, for a strip judged by its evidence; back into service or out of it from RECOVERING; TEST_FAIL alone in
OUT_OF_SERVICE. -/
theorem State.testResult_cases (s : State) (i : Strip) (pass : Bool) :
    (s.shu[i].state = .disabled ∧ s.testResult i pass = s) ∨
    ((s.shu[i].state = .inService ∨ s.shu[i].state = .suspect) ∧ ∃ n ≤ 1, ∃ b,
      s.testResult i pass = (s.updShu i fun h => { h with failCount := n }).evidence i fun c => { c with testFail := b }) ∨
    (s.shu[i].state.delivers = true ∧ s.testResult i pass =
      (s.updShu i fun h => { h with causes := { h.causes with testFail := true } }).failOut i) ∨
    (s.shu[i].state = .recovering ∧ s.testResult i pass =
      s.updShu i fun h => { h.enter .inService with causes := Causes.none, missCount := 0, failCount := 0 }) ∨
    (s.shu[i].state = .outOfService ∧ ∃ b, s.testResult i pass =
      s.updShu i fun h => { h with causes := { h.causes with testFail := b } }) := by
  cases hst : s.shu[i].state with
  | disabled => exact .inl ⟨rfl, by simp only [State.testResult, hst]⟩
  | inService | suspect =>
    cases pass with
    | true => exact .inr (.inl ⟨by simp, 0, by omega, false, by simp only [State.testResult, hst]⟩)
    | false =>
      by_cases hf : s.shu[i].failCount = 1
      · exact .inr (.inr (.inl ⟨rfl, by simp only [State.testResult, hst, hf, if_true]⟩))
      · exact .inr (.inl ⟨by simp, 1, le_refl 1, true, by simp only [State.testResult, hst, hf, if_false]⟩)
  | recovering =>
    cases pass with
    | true => exact .inr (.inr (.inr (.inl ⟨rfl, by simp only [State.testResult, hst]⟩)))
    | false => exact .inr (.inr (.inl ⟨rfl, by simp only [State.testResult, hst]⟩))
  | outOfService => exact .inr (.inr (.inr (.inr ⟨rfl, !pass, by simp only [State.testResult, hst]⟩)))

theorem State.testResult_steady (s : State) (i : Strip) (pass : Bool) : Steady s (s.testResult i pass) := by
  obtain ⟨-, e⟩ | ⟨-, n, -, b, e⟩ | ⟨-, e⟩ | ⟨-, e⟩ | ⟨-, b, e⟩ := s.testResult_cases i pass
  · rw [e]; exact .refl s
  · rw [e]; exact (s.updShu_steady i _).trans (State.evidence_steady _ i _)
  · rw [e]; exact (s.updShu_steady i _).trans (State.failOut_steady _ i)
  · rw [e]; exact s.updShu_steady i _
  · rw [e]; exact s.updShu_steady i _

end Sys2Proof.Machine

/-! PROOFS. Parameters in their ranges and baselines in their windows: every step keeps them (R2, R6, R42, R43, R207). -/

namespace Sys2Proof.Machine

/-! ### Steps that are steady -/

theorem State.setPrev_steady (s : State) (o : SlotOutcome) : Steady s (s.setPrev o) :=
  ⟨rfl, fun _ => rfl, rfl, rfl, rfl, rfl, rfl, fun _ => rfl⟩

theorem Alarm.evaluate_limits (a : Alarm) (m : AlarmMode) (beyond back : Bool) :
    (a.evaluate m beyond back).trip = a.trip ∧ (a.evaluate m beyond back).hyst = a.hyst := by
  unfold Alarm.evaluate
  repeat' split
  all_goals exact ⟨rfl, rfl⟩

theorem ProbeUnit.newF_limits (u : ProbeUnit) (f : Int) : (u.newF f).limits = u.limits := by
  simp [ProbeUnit.newF, ProbeUnit.limits, Alarm.hotEval, Alarm.coldEval, Alarm.evaluate_limits]

/-- A change of one probe that leaves its limits. -/
theorem State.updProbe_steady (s : State) (p : Probe) (f : ProbeUnit → ProbeUnit)
    (hf : (f s.ptu.probe[p]).limits = s.ptu.probe[p].limits) : Steady s (s.updProbe p f) := by
  refine ⟨rfl, fun q => ?_, rfl, rfl, rfl, rfl, rfl, fun _ => rfl⟩
  simp only [State.updProbe_ptu, upd_get]
  split
  next e => subst e; exact hf
  next => rfl

theorem State.recomputeLanes_steady (s : State) : Steady s s.recomputeLanes :=
  ⟨rfl, fun _ => rfl, rfl, rfl, rfl, rfl, rfl, fun _ => rfl⟩

theorem State.newF_steady (s : State) (p : Probe) (f : Int) : Steady s (s.newF p f) :=
  (s.updProbe_steady p _ (ProbeUnit.newF_limits _ f)).trans (State.recomputeLanes_steady _)

theorem State.readUnknown_steady (s : State) (p : Probe) (r : Int) : Steady s (s.readUnknown p r) := by
  unfold State.readUnknown
  repeat' split
  · exact (s.updProbe_steady p _ rfl).trans (State.newF_steady _ p r)
  · exact s.updProbe_steady p _ rfl
  · exact s.updProbe_steady p _ rfl

theorem State.readValid_steady (s : State) (p : Probe) (r : Int) : Steady s (s.readValid p r) := by
  simp only [State.readValid]
  repeat' split
  · exact ((s.updProbe_steady p _ rfl).trans (State.updProbe_steady _ p _ rfl)).trans (State.newF_steady _ p _)
  · exact (s.updProbe_steady p _ rfl).trans (State.updProbe_steady _ p _ rfl)
  · exact ((s.updProbe_steady p _ rfl).trans (State.updProbe_steady _ p _ rfl)).trans (State.newF_steady _ p r)
  · exact s.updProbe_steady p _ rfl
  · exact (s.updProbe_steady p _ rfl).trans (State.recomputeLanes_steady _)

theorem State.readFault_steady (s : State) (p : Probe) (r : Int) : Steady s (s.readFault p r) := by
  unfold State.readFault
  repeat' split
  · exact s.updProbe_steady p _ rfl
  · exact (s.updProbe_steady p _ rfl).trans (State.newF_steady _ p r)
  · exact s.updProbe_steady p _ rfl

theorem State.reading_steady (s : State) (p : Probe) (r : Int) : Steady s (s.reading p r) := by
  have h := s.updProbe_steady p (fun u => { u with last := r }) rfl
  simp only [State.reading]
  split
  · exact .refl s
  · exact h.trans (State.readUnknown_steady _ p r)
  · exact h.trans (State.readValid_steady _ p r)
  · exact h.trans (State.readFault_steady _ p r)

theorem State.settle_steady (s : State) (i : Strip) : Steady s (s.settle i) := s.updScu_steady i _ rfl

theorem State.readCompletion_steady (s : State) (f : Flight) (code : Nat) : Steady s (s.readCompletion f code) := by
  unfold State.readCompletion
  refine Steady.trans ?_ (State.testResult_steady _ _ _)
  exact ⟨rfl, fun _ => rfl, rfl, rfl, rfl, rfl, rfl, (s.settle_steady f.entry.strip).base⟩

theorem State.endWork_steady (s : State) (result : BitVec 16) : Steady s (s.endWork result) := by
  unfold State.endWork
  split
  · exact (s.reading_steady _ _).trans (State.setPrev_steady _ _)
  · exact s.setPrev_steady _
  · split
    · exact (s.readCompletion_steady _ _).trans (State.setPrev_steady _ _)
    · exact s.setPrev_steady _
  · exact s.setPrev_steady _
  · exact s.setPrev_steady _

theorem State.breakSequence_steady (s : State) : Steady s s.breakSequence := by
  simp only [State.breakSequence]
  repeat' split
  · exact (s.abortTest_steady _).trans ⟨rfl, fun _ => rfl, rfl, rfl, rfl, rfl, rfl, fun _ => rfl⟩
  · exact (s.abortTest_steady _).trans ⟨rfl, fun _ => rfl, rfl, rfl, rfl, rfl, rfl, fun _ => rfl⟩
  · exact .refl s
  · exact .refl s

theorem State.beginWork_steady (s : State) (c : Choice) : Steady s (s.beginWork c) := by
  unfold State.beginWork
  split
  · exact ⟨rfl, fun _ => rfl, rfl, rfl, rfl, rfl, rfl, fun _ => rfl⟩
  next e =>
    exact ⟨rfl, fun _ => rfl, rfl, rfl, rfl, rfl, rfl,
      (s.updScu_steady e.strip
        (fun u => { u with conn := .underTest, disturb := some { start := s.siteTime, stop := none } }) rfl).base⟩
  · exact ⟨rfl, fun _ => rfl, rfl, rfl, rfl, rfl, rfl, fun _ => rfl⟩
  · exact ⟨rfl, fun _ => rfl, rfl, rfl, rfl, rfl, rfl, fun _ => rfl⟩

theorem State.chooseWork_steady (s : State) : Steady s s.chooseWork := by
  simp only [State.chooseWork]
  split
  · exact s.beginWork_steady _
  · exact ⟨rfl, fun _ => rfl, rfl, rfl, rfl, rfl, rfl, fun _ => rfl⟩

theorem State.beginSlot_steady (s : State) : Steady s s.beginSlot := by
  simp only [State.beginSlot]
  refine Steady.trans (Steady.trans ?_ (State.breakSequence_steady _)) (State.chooseWork_steady _)
  exact ⟨rfl, fun _ => rfl, rfl, rfl, rfl, rfl, rfl, fun _ => rfl⟩

theorem State.clearStripCounters_steady (s : State) (i : Strip) : Steady s (s.clearStripCounters i) :=
  ((s.updScu_steady i _ rfl).trans (State.updTests_steady _ i _)).trans (State.updShu_steady _ i _)

theorem counterRead_steady (p : List Byte) (s : State) : Steady s (counterRead p s).2 := by
  unfold counterRead
  repeat' split
  · exact s.clearStripCounters_steady _
  · exact ⟨rfl, fun _ => rfl, rfl, rfl, rfl, rfl, rfl, fun _ => rfl⟩
  · exact .refl s
  · exact .refl s

theorem State.dropTests_steady (s : State) : Steady s s.dropTests := by
  unfold State.dropTests
  simp only
  split
  · exact (s.abortTest_steady _).trans ⟨rfl, fun _ => rfl, rfl, rfl, rfl, rfl, rfl, fun _ => rfl⟩
  · exact ⟨rfl, fun _ => rfl, rfl, rfl, rfl, rfl, rfl, fun _ => rfl⟩

theorem State.trafficReset_steady (s : State) : Steady s s.trafficReset := by
  refine s.dropTests_steady.trans ⟨rfl, fun _ => rfl, rfl, rfl, rfl, rfl, rfl, fun i => ?_⟩
  simp [State.trafficReset, Scu.trafficReset]

theorem stripRemove_steady (p : List Byte) (s : State) : Steady s (stripRemove p s).2 := by
  refine stripCommand_keeps (.refl s) fun i => ?_
  split
  · exact .refl s
  · exact .refl s
  · exact s.takeOut_steady i

theorem stripRestore_steady (p : List Byte) (s : State) : Steady s (stripRestore p s).2 := by
  refine stripCommand_keeps (.refl s) fun i => ?_
  repeat' split
  · exact .refl s
  · exact .refl s
  · exact (s.updShu_steady i _).trans (State.request_steady _ i _)

theorem stripTest_steady (p : List Byte) (s : State) : Steady s (stripTest p s).2 := by
  refine stripCommand_keeps (.refl s) fun i => ?_
  split
  · exact s.request_steady i _
  · exact s.request_steady i _
  · exact .refl s

theorem stripStatus_steady (p : List Byte) (s : State) : Steady s (stripStatus p s).2 :=
  stripCommand_keeps (.refl s) fun i => (s.updShu_steady i _).trans (State.updScu_steady _ i _ rfl)

theorem pinnedTimerExpiry_steady {i : Strip} {s t : State} (h : execPinnedTimerExpiry i s = .next t) : Steady s t := by
  cases h
  split
  · exact (s.updScu_steady i _ rfl).trans (State.evidence_steady _ i _)
  · exact .refl s

theorem noiseWindowEnd_steady {i : Strip} {s t : State} (h : execNoiseWindowEnd i s = .next t) : Steady s t := by
  cases h
  split
  · exact (s.updScu_steady i _ rfl).trans (State.evidence_steady _ i _)
  · exact .refl s

theorem holdoffExpiry_steady {i : Strip} {s t : State} (h : execHoldoffExpiry i s = .next t) : Steady s t := by
  cases h
  split
  · exact s.updShu_steady i _
  · exact .refl s

theorem periodicTimerExpiry_steady {i : Strip} {s t : State} (h : execPeriodicTimerExpiry i s = .next t) : Steady s t := by
  cases h
  split
  · simp only
    split
    · exact (s.request_steady i _).trans (State.updTests_steady _ i _)
    · exact s.updTests_steady i _
  · exact .refl s

/-- A property of what `Steady` compares needs to be looked at only where a parameter, an alarm limit, a frame, a baseline or
the strips' calibration moves. -/
theorem Kept.of_steady {I : State → Prop} (steady : ∀ {s t : State}, Steady s t → I s → I t)
    (applied : ∀ (p : Param) (k : Nat) (v : Int) {s t : State}, I s → paramApplier p k v s = some t → I t)
    (autoZeroStep : ∀ {s t : State} (i : Strip), I s → execAutoZeroStep i s = .next t → I t)
    (standingTimer : ∀ {s t : State} (i : Strip), I s → execStandingTimerExpiry i s = .next t → I t)
    (slotMoves : ∀ {s : State}, I s → I { s with mcs := s.mcs.advance })
    (storeCompletion : ∀ {s t : State} (bytes : List Byte), I s → execStoreCompletion bytes s = .next t → I t)
    (deviceReset : ∀ (node : BitVec 2) (nv : Nonvolatile) (calsw : Bool) (pending : List Instr),
      I (State.atReset node nv calsw pending))
    (loadCompletion : ∀ {s t : State}, I s → execLoadCompletion s = .next t → I t)
    (staged : ∀ {s : State} (i : Strip) (item : List Byte), I s →
      I (s.stage { s.cst.staging with strip := upd s.cst.staging.strip i fun _ => stripItem item 0 }))
    (calLoad : ∀ {s : State}, I s → I (s.stage s.cst.working)) : Kept I where
  same h := steady h.steady
  applied := applied
  sampled i code := steady (State.takeSample_steady _ i code)
  autoZeroStep := autoZeroStep
  pinnedTimer _ hs h := steady (pinnedTimerExpiry_steady h) hs
  standingTimer := standingTimer
  noiseWindow _ hs h := steady (noiseWindowEnd_steady h) hs
  pulseArrival i hs h := steady ((Steady.keptByPairing _).pulseArrival i (.refl _) h) hs
  loneExpiry i k hs h := steady ((Steady.keptByPairing _).loneExpiry i k (.refl _) h) hs
  entryExpiry n k hs h := steady ((Steady.keptByPairing _).entryExpiry n k (.refl _) h) hs
  slotBoundary code hs h := by
    cases h
    split
    · exact steady (State.beginSlot_steady _) (slotMoves (steady (State.endWork_steady _ code) hs))
    · exact hs
  periodicTimer _ hs h := steady (periodicTimerExpiry_steady h) hs
  holdoff _ hs h := steady (holdoffExpiry_steady h) hs
  storeCompletion := storeCompletion
  deviceReset := deviceReset
  loadCompletion := loadCompletion
  counterRead p := steady (counterRead_steady p _)
  trafficReset := steady (State.trafficReset_steady _)
  stripRemove p := steady (stripRemove_steady p _)
  stripRestore p := steady (stripRestore_steady p _)
  stripTest p := steady (stripTest_steady p _)
  stripStatus p := steady (stripStatus_steady p _)
  staged := staged
  calLoad := calLoad

end Sys2Proof.Machine

namespace Sys2Proof.Machine

/-! ### Parameters in their ranges, block by block -/

/-- The lane parameters in their ranges, with NB ≤ T_OFF ≤ T_ON (R6, R207). -/
structure LanePar.InRange (l : LanePar) : Prop where
  tOn : 16 ≤ l.tOn ∧ l.tOn ≤ 8191
  tOff : 8 ≤ l.tOff ∧ l.tOff ≤ l.tOn
  nb : 1 ≤ l.nb ∧ l.nb ≤ l.tOff
  noiseLim : 1 ≤ l.noiseLim ∧ l.noiseLim ≤ 8000
  wLr : 2 ≤ l.wLr ∧ l.wLr ≤ 400
  spdTol : 1 ≤ l.spdTol ∧ l.spdTol ≤ 50
  maxSp : 100 ≤ l.maxSp ∧ l.maxSp ≤ 3000
  maxClose : 8000 ≤ l.maxClose ∧ l.maxClose ≤ 160000
  rdt : 1 ≤ l.rdt ∧ l.rdt ≤ 1000

/-- The parameters without a lane in their ranges (R207). -/
structure Par.SiteInRange (q : Par) : Prop where
  azl : q.azl ≤ 4095
  azTol : q.azTol ≤ 255
  azStep : 1 ≤ q.azStep ∧ q.azStep ≤ 255
  grp : 50 ≤ q.grp ∧ q.grp ≤ 500
  tempHold : q.tempHold ≤ 3600
  testLimit : 1 ≤ q.testLimit ∧ q.testLimit ≤ 65535
  testPeriod : q.testPeriod ≤ 1440
  missLim : 1 ≤ q.missLim ∧ q.missLim ≤ 15
  holdoff : 1 ≤ q.holdoff ∧ q.holdoff ≤ 255
  attnMask : q.attnMask.toNat ≤ 63

/-- The four limits of a probe's alarm units in the physical range (R36). -/
def ProbeUnit.InRange (u : ProbeUnit) : Prop :=
  (-800 ≤ u.hot.trip ∧ u.hot.trip ≤ 1600) ∧ (-800 ≤ u.hot.hyst ∧ u.hot.hyst ≤ 1600) ∧
  (-800 ≤ u.cold.trip ∧ u.cold.trip ≤ 1600) ∧ (-800 ≤ u.cold.hyst ∧ u.cold.hyst ≤ 1600)

theorem ProbeUnit.InRange.of_limits {u v : ProbeUnit} (h : v.limits = u.limits) (hu : u.InRange) : v.InRange := by
  simp only [ProbeUnit.limits, Prod.mk.injEq] at h
  obtain ⟨h1, h2, h3, h4⟩ := h
  simpa only [ProbeUnit.InRange, h1, h2, h3, h4] using hu

/-- Every slot length of a frame fits its byte (R207). -/
def FrameInRange (f : Vector Slot 4) : Prop := ∀ n : Fin 4, f[n].len ≤ 255

theorem AlarmMode.code_le (m : AlarmMode) : m.code ≤ 2 := by cases m <;> decide

theorem SlotRule.code_le (r : SlotRule) : r.code ≤ 4 := by cases r <;> decide

theorem bit_one_le (b : Bool) : bit 1 b ≤ 1 := by cases b <;> decide

/-- The condition on the 31 parameters says the same as the conditions on the blocks that hold them. -/
theorem parametersInRange_iff (s : State) : ParametersInRange s ↔
    (∀ n : Lane, s.par.lane[n].InRange) ∧ s.par.SiteInRange ∧ (∀ p : Probe, s.ptu.probe[p].InRange) ∧
    FrameInRange s.mcs.pendingFrame ∧ someLength s.mcs.pendingFrame = true ∧ s.mcs.frame[s.mcs.pos].len ≠ 0 := by
  constructor
  · rintro ⟨h, hpend, hpos⟩
    have of (p : Param) (k : Nat) (hk : k < (paramScope p).size) := h p k hk
    refine ⟨fun n => ?_, ?_, fun p => ?_, fun n => ?_, hpend, hpos⟩
    · have h1 := of .tOn n.val n.isLt
      have h2 := of .tOff n.val n.isLt
      have h3 := of .nb n.val n.isLt
      have h4 := of .noiseLim n.val n.isLt
      have h5 := of .wLr n.val n.isLt
      have h6 := of .spdtol n.val n.isLt
      have h7 := of .maxsp n.val n.isLt
      have h8 := of .maxclose n.val n.isLt
      have h9 := of .rdt n.val n.isLt
      simp only [State.paramRange, State.paramValue, Fin.ofNat_val_eq_self] at h1 h2 h3 h4 h5 h6 h7 h8 h9
      constructor <;> omega
    · have h1 := of .azl 0 (by decide)
      have h2 := of .azTol 0 (by decide)
      have h3 := of .azStep 0 (by decide)
      have h4 := of .grp 0 (by decide)
      have h5 := of .tempHold 0 (by decide)
      have h6 := of .testLimit 0 (by decide)
      have h7 := of .testPeriod 0 (by decide)
      have h8 := of .missLim 0 (by decide)
      have h9 := of .holdoff 0 (by decide)
      have h10 := of .attnMask 0 (by decide)
      simp only [State.paramRange, State.paramValue] at h1 h2 h3 h4 h5 h6 h7 h8 h9 h10
      constructor <;> omega
    · have h1 := of .hotTo p.val p.isLt
      have h2 := of .hotTh p.val p.isLt
      have h3 := of .coldTo p.val p.isLt
      have h4 := of .coldTh p.val p.isLt
      simp only [State.paramRange, State.paramValue, Fin.ofNat_val_eq_self] at h1 h2 h3 h4
      exact ⟨h1, h2, h3, h4⟩
    · have h1 := of (.slotLen n) 0 Nat.one_pos
      simp only [State.paramRange, State.paramValue] at h1
      omega
  · rintro ⟨hlane, hsite, hprobe, hframe, hpend, hpos⟩
    refine ⟨fun p k _ => ?_, hpend, hpos⟩
    have hl := hlane (Fin.ofNat 4 k)
    have hp := hprobe (Fin.ofNat 4 k)
    obtain ⟨h1, h2, h3, h4, h5, h6, h7, h8, h9⟩ := hl
    obtain ⟨k1, k2, k3, k4, k5, k6, k7, k8, k9, k10⟩ := hsite
    cases p with
    | tOn => dsimp only [State.paramRange, State.paramValue]; omega
    | tOff => dsimp only [State.paramRange, State.paramValue]; omega
    | nb => dsimp only [State.paramRange, State.paramValue]; omega
    | noiseLim => dsimp only [State.paramRange, State.paramValue]; omega
    | wLr => dsimp only [State.paramRange, State.paramValue]; omega
    | spdtol => dsimp only [State.paramRange, State.paramValue]; omega
    | maxsp => dsimp only [State.paramRange, State.paramValue]; omega
    | maxclose => dsimp only [State.paramRange, State.paramValue]; omega
    | rdt => dsimp only [State.paramRange, State.paramValue]; omega
    | azl | azTol | azStep | grp | tempHold | testLimit | testPeriod | missLim | holdoff | attnMask =>
      dsimp only [State.paramRange, State.paramValue]; omega
    | enable => 
      have := bit_one_le (s.shu[Fin.ofNat 16 k].state ≠ .disabled)
      dsimp only [State.paramRange, State.paramValue]; omega
    | straddleEn =>
      have := bit_one_le s.par.straddleEn[Fin.ofNat 3 k]
      dsimp only [State.paramRange, State.paramValue]; omega
    | probeEn =>
      have := bit_one_le (s.ptu.probe[Fin.ofNat 4 k].state ≠ .disabled)
      dsimp only [State.paramRange, State.paramValue]; omega
    | probeMap =>
      have := s.par.lane[Fin.ofNat 4 k].probeMap.isLt
      dsimp only [State.paramRange, State.paramValue]; omega
    | hotTo => exact hp.1
    | hotTh => exact hp.2.1
    | coldTo => exact hp.2.2.1
    | coldTh => exact hp.2.2.2
    | hotMode =>
      have := s.ptu.probe[Fin.ofNat 4 k].hot.mode.code_le
      dsimp only [State.paramRange, State.paramValue]; omega
    | coldMode =>
      have := s.ptu.probe[Fin.ofNat 4 k].cold.mode.code_le
      dsimp only [State.paramRange, State.paramValue]; omega
    | slotLen n =>
      have := hframe n
      dsimp only [State.paramRange, State.paramValue]; omega
    | slotRule n =>
      have := s.mcs.pendingFrame[n].rule.code_le
      dsimp only [State.paramRange, State.paramValue]; omega

/-- The parameters, the alarm limits and the frames with the slot position of t are those of s. -/
structure SameSettings (s t : State) : Prop where
  par : t.par = s.par
  limits : ∀ p : Probe, t.ptu.probe[p].limits = s.ptu.probe[p].limits
  frame : t.mcs.frame = s.mcs.frame
  pending : t.mcs.pendingFrame = s.mcs.pendingFrame
  pos : t.mcs.pos = s.mcs.pos

theorem SameSettings.refl (s : State) : SameSettings s s := ⟨rfl, fun _ => rfl, rfl, rfl, rfl⟩

theorem SameSettings.trans {s t u : State} (h : SameSettings s t) (k : SameSettings t u) : SameSettings s u :=
  ⟨k.par.trans h.par, fun p => (k.limits p).trans (h.limits p), k.frame.trans h.frame, k.pending.trans h.pending,
    k.pos.trans h.pos⟩

theorem Steady.settings {s t : State} (h : Steady s t) : SameSettings s t := ⟨h.par, h.limits, h.frame, h.pending, h.pos⟩

theorem State.updScu_settings (s : State) (i : Strip) (f : Scu → Scu) : SameSettings s (s.updScu i f) :=
  ⟨rfl, fun _ => rfl, rfl, rfl, rfl⟩

theorem State.windowChange_settings (s : State) (i : Strip) : SameSettings s (s.windowChange i) :=
  (s.updScu_settings i _).trans (State.clearPinned_steady _ i).settings

theorem State.enable_settings (s : State) (i : Strip) : SameSettings s (s.enable i) := ⟨rfl, fun _ => rfl, rfl, rfl, rfl⟩

theorem State.disable_settings (s : State) (i : Strip) : SameSettings s (s.disable i) := ⟨rfl, fun _ => rfl, rfl, rfl, rfl⟩

theorem State.recomputeLane_settings (s : State) (n : Lane) : SameSettings s (s.recomputeLane n) :=
  ⟨rfl, fun _ => rfl, rfl, rfl, rfl⟩

theorem State.tests_settings (s : State) (l : Vector StripTests 16) : SameSettings s { s with mcs := { s.mcs with strip := l } } :=
  ⟨rfl, fun _ => rfl, rfl, rfl, rfl⟩

/-- A walk over the strips keeps what each of its steps keeps. -/
theorem foldl_keeps {α : Type} {I : State → Prop} {f : State → α → State} (hf : ∀ s a, I s → I (f s a)) (l : List α) {s : State}
    (hs : I s) : I (l.foldl f s) := by
  induction l generalizing s with
  | nil => exact hs
  | cons a l ih => exact ih (hf s a hs)

theorem ParametersInRange.of_settings {s t : State} (h : SameSettings s t) (hs : ParametersInRange s) :
    ParametersInRange t := by
  rw [parametersInRange_iff] at hs ⊢
  obtain ⟨hlane, hsite, hprobe, hframe, hsome, hpos⟩ := hs
  simp only [h.par, h.pending, h.frame, h.pos]
  exact ⟨hlane, hsite, fun p => (hprobe p).of_limits (h.limits p), hframe, hsome, hpos⟩

/-! ### The frame keeps a slot (R42, R43) -/

theorem firstSlot_len {f : Vector Slot 4} {l : List (Fin 4)} {k : Fin 4} (h : firstSlot f l = some k) : f[k].len ≠ 0 := by
  simpa [firstSlot] using List.find?_some h

theorem someLength_iff (f : Vector Slot 4) : someLength f = true ↔ ∃ k : Fin 4, f[k].len ≠ 0 := by
  simp [someLength, Fin.exists_iff, Vector.any_eq_true]

theorem someLength_of_len {f g : Vector Slot 4} (h : ∀ k : Fin 4, g[k].len = f[k].len) (hf : someLength f = true) :
    someLength g = true := by
  rw [someLength_iff] at hf ⊢
  obtain ⟨k, hk⟩ := hf
  exact ⟨k, by rwa [h k]⟩

/-- A pending frame with some length has a first slot (R42). -/
theorem Mcs.firstPending_len {m : Mcs} (h : someLength m.pendingFrame = true) : m.pendingFrame[m.firstPending].len ≠ 0 := by
  cases e : firstSlot m.pendingFrame [0, 1, 2, 3] with
  | some k =>
    have hk : m.firstPending = k := by simp only [Mcs.firstPending, e, Option.getD_some]
    simpa only [hk] using firstSlot_len e
  | none =>
    have hnone : ∀ k : Fin 4, m.pendingFrame[k].len = 0 := by
      intro k
      have hk : k ∈ [0, 1, 2, 3] := by fin_cases k <;> decide
      simpa using List.find?_eq_none.1 e k hk
    obtain ⟨x, hx, hlen⟩ := List.any_eq_true.1 h
    obtain ⟨k, hk, rfl⟩ := Vector.mem_iff_getElem.1 (Vector.mem_toList_iff.1 hx)
    exact absurd (hnone ⟨k, hk⟩) (by simpa using hlen)

/-- The move to the next slot, case by case (R43). -/
theorem Mcs.advance_cases (m : Mcs) :
    (∃ k, m.nextInFrame = some k ∧ m.advance = { m with pos := k }) ∨
    (m.nextInFrame = none ∧ m.advance = { m with frame := m.pendingFrame, pos := m.firstPending }) := by
  cases e : m.nextInFrame with
  | some k => exact .inl ⟨k, rfl, by simp only [Mcs.advance, e]⟩
  | none => exact .inr ⟨rfl, by simp only [Mcs.advance, e]⟩

/-- The slot at the slot position. -/
def Mcs.slot (m : Mcs) : Slot := m.frame[m.pos]

theorem Mcs.advance_slot_len {m : Mcs} (h : someLength m.pendingFrame = true) : m.advance.slot.len ≠ 0 := by
  obtain ⟨k, hk, e⟩ | ⟨-, e⟩ := m.advance_cases
  · rw [e]; exact firstSlot_len hk
  · rw [e]; exact m.firstPending_len h

theorem Mcs.advance_pendingFrame (m : Mcs) : m.advance.pendingFrame = m.pendingFrame := by
  obtain ⟨k, -, e⟩ | ⟨-, e⟩ := m.advance_cases
  · rw [e]
  · rw [e]

/-! ### A written parameter stays in its range (R207) -/

section
variable {s : State} (hs : ParametersInRange s)
include hs

theorem ParametersInRange.updLanePar (n : Lane) {f : LanePar → LanePar} (hf : ∀ l, l.InRange → (f l).InRange) :
    ParametersInRange (s.updLanePar n f) := by
  rw [parametersInRange_iff] at hs ⊢
  obtain ⟨hlane, hsite, hrest⟩ := hs
  refine ⟨fun m => ?_, ⟨hsite.azl, hsite.azTol, hsite.azStep, hsite.grp, hsite.tempHold, hsite.testLimit, hsite.testPeriod,
    hsite.missLim, hsite.holdoff, hsite.attnMask⟩, hrest⟩
  simp only [State.updLanePar, State.updPar, upd_get]
  split
  · exact hf _ (hlane m)
  · exact hlane m

theorem ParametersInRange.updPar {f : Par → Par} (hl : (f s.par).lane = s.par.lane)
    (hf : s.par.SiteInRange → (f s.par).SiteInRange) : ParametersInRange (s.updPar f) := by
  rw [parametersInRange_iff] at hs ⊢
  obtain ⟨hlane, hsite, hrest⟩ := hs
  refine ⟨fun m => ?_, hf hsite, hrest⟩
  simp only [State.updPar, hl]
  exact hlane m

theorem ParametersInRange.updProbe (p : Probe) {f : ProbeUnit → ProbeUnit} (hf : ∀ u, u.InRange → (f u).InRange) :
    ParametersInRange (s.updProbe p f) := by
  rw [parametersInRange_iff] at hs ⊢
  obtain ⟨hlane, hsite, hprobe, hrest⟩ := hs
  refine ⟨hlane, hsite, fun q => ?_, hrest⟩
  simp only [State.updProbe_ptu, upd_get]
  split
  · exact hf _ (hprobe q)
  · exact hprobe q

theorem ParametersInRange.withPending {f : Vector Slot 4} (hf : FrameInRange f) (hl : someLength f = true) :
    ParametersInRange (s.withPending f) := by
  rw [parametersInRange_iff] at hs ⊢
  obtain ⟨hlane, hsite, hprobe, -, -, hpos⟩ := hs
  exact ⟨hlane, hsite, hprobe, hf, hl, hpos⟩

end

/-- A lane parameter clamped into a range of its own. -/
theorem storeLane_inRange {lo hi : Nat} {f : Nat → LanePar → LanePar} {k : Nat} {v : Int} {s t : State}
    (hs : ParametersInRange s) (ha : storeLane lo hi f k v s = some t) (h : lo ≤ hi)
    (hf : ∀ v l, lo ≤ v → v ≤ hi → l.InRange → (f v l).InRange) : ParametersInRange t := by
  cases ha
  have hv := clampNat_bounds h v
  exact hs.updLanePar _ fun l hl => hf _ l hv.1 hv.2 hl

/-- A site parameter clamped into a range of its own. -/
theorem storeSite_inRange {lo hi : Nat} {f : Nat → Par → Par} {k : Nat} {v : Int} {s t : State} (hs : ParametersInRange s)
    (ha : storeSite lo hi f k v s = some t) (h : lo ≤ hi) (hl : ∀ v q, (f v q).lane = q.lane)
    (hf : ∀ v q, lo ≤ v → v ≤ hi → q.SiteInRange → (f v q).SiteInRange) : ParametersInRange t := by
  cases ha
  have hv := clampNat_bounds h v
  exact hs.updPar (hl _ _) (hf _ _ hv.1 hv.2)

theorem LanePar.InRange.writeTOn {v : Nat} {l : LanePar} (h : 16 ≤ v ∧ v ≤ 8191) (hl : l.InRange) :
    (l.writeTOn v).InRange := by
  obtain ⟨h1, h2, h3, h4, h5, h6, h7, h8, h9⟩ := hl
  refine ⟨h, ?_, ?_, h4, h5, h6, h7, h8, h9⟩
  · simp only [LanePar.writeTOn]; omega
  · simp only [LanePar.writeTOn]; omega

theorem LanePar.InRange.writeTOff (v : Int) {l : LanePar} (hl : l.InRange) : (l.writeTOff v).InRange := by
  obtain ⟨h1, h2, h3, h4, h5, h6, h7, h8, h9⟩ := hl
  have hv := clampNat_bounds (show 8 ≤ l.tOn by omega) v
  refine ⟨h1, hv, ?_, h4, h5, h6, h7, h8, h9⟩
  simp only [LanePar.writeTOff]; omega

theorem LanePar.InRange.probeMap (p : Probe) {l : LanePar} (hl : l.InRange) : LanePar.InRange { l with probeMap := p } :=
  ⟨hl.tOn, hl.tOff, hl.nb, hl.noiseLim, hl.wLr, hl.spdTol, hl.maxSp, hl.maxClose, hl.rdt⟩

theorem LanePar.InRange.writeNb (v : Int) {l : LanePar} (hl : l.InRange) : (l.writeNb v).InRange := by
  obtain ⟨h1, h2, h3, h4, h5, h6, h7, h8, h9⟩ := hl
  exact ⟨h1, h2, clampNat_bounds (show 1 ≤ l.tOff by omega) v, h4, h5, h6, h7, h8, h9⟩

theorem clampTemp_bounds (v : Int) : -800 ≤ clampTemp v ∧ clampTemp v ≤ 1600 := clamp_bounds (by decide) v

/-- Every parameter keeps every range (R6, R36, R42, R207). -/
theorem paramApplier_inRange (p : Param) (k : Nat) (v : Int) {s t : State} (hs : ParametersInRange s)
    (h : paramApplier p k v s = some t) : ParametersInRange t := by
  cases p with
  | tOn => exact storeLane_inRange hs h (by decide) fun v l h1 h2 => .writeTOn ⟨h1, h2⟩
  | tOff => cases h; exact hs.updLanePar _ fun l => .writeTOff v
  | nb => cases h; exact hs.updLanePar _ fun l => .writeNb v
  | noiseLim => unfold paramApplier applyNoiseLim at h; exact storeLane_inRange hs h (by decide) fun v l h1 h2 hl => { hl with noiseLim := ⟨h1, h2⟩ }
  | wLr => unfold paramApplier applyWLr at h; exact storeLane_inRange hs h (by decide) fun v l h1 h2 hl => { hl with wLr := ⟨h1, h2⟩ }
  | spdtol => unfold paramApplier applySpdtol at h; exact storeLane_inRange hs h (by decide) fun v l h1 h2 hl => { hl with spdTol := ⟨h1, h2⟩ }
  | maxsp => unfold paramApplier applyMaxsp at h; exact storeLane_inRange hs h (by decide) fun v l h1 h2 hl => { hl with maxSp := ⟨h1, h2⟩ }
  | maxclose => unfold paramApplier applyMaxclose at h; exact storeLane_inRange hs h (by decide) fun v l h1 h2 hl => { hl with maxClose := ⟨h1, h2⟩ }
  | rdt => unfold paramApplier applyRdt at h; exact storeLane_inRange hs h (by decide) fun v l h1 h2 hl => { hl with rdt := ⟨h1, h2⟩ }
  | azTol => unfold paramApplier applyAzTol at h; exact storeSite_inRange hs h (by decide) (fun _ _ => rfl) fun v q _ h2 hq => { hq with azTol := h2 }
  | azStep => unfold paramApplier applyAzStep at h; exact storeSite_inRange hs h (by decide) (fun _ _ => rfl) fun v q h1 h2 hq => { hq with azStep := ⟨h1, h2⟩ }
  | grp => unfold paramApplier applyGrp at h; exact storeSite_inRange hs h (by decide) (fun _ _ => rfl) fun v q h1 h2 hq => { hq with grp := ⟨h1, h2⟩ }
  | tempHold => unfold paramApplier applyTempHold at h; exact storeSite_inRange hs h (by decide) (fun _ _ => rfl) fun v q _ h2 hq => { hq with tempHold := h2 }
  | testLimit =>
    unfold paramApplier applyTestLimit at h
    exact storeSite_inRange hs h (by decide) (fun _ _ => rfl) fun v q h1 h2 hq => { hq with testLimit := ⟨h1, h2⟩ }
  | missLim => unfold paramApplier applyMissLim at h; exact storeSite_inRange hs h (by decide) (fun _ _ => rfl) fun v q h1 h2 hq => { hq with missLim := ⟨h1, h2⟩ }
  | holdoff => unfold paramApplier applyHoldoff at h; exact storeSite_inRange hs h (by decide) (fun _ _ => rfl) fun v q h1 h2 hq => { hq with holdoff := ⟨h1, h2⟩ }
  | straddleEn => cases h; exact hs.updPar rfl fun hq => { hq with }
  | azl =>
    simp only [paramApplier, applyAzl] at h
    split at h
    · cases h; exact hs
    · rw [← Option.some.inj h]
      refine foldl_keeps (I := ParametersInRange) (fun u i hu => hu.of_settings (u.windowChange_settings i)) _ ?_
      have hv := clampNat_bounds (show 0 ≤ 4095 by omega) v
      exact hs.updPar rfl fun hq => { hq with azl := hv.2 }
  | enable =>
    simp only [paramApplier, applyEnable] at h
    split at h
    · cases h; exact hs
    · split at h
      · cases h; exact hs.of_settings (s.enable_settings _)
      · cases h; exact hs.of_settings (s.disable_settings _)
  | probeMap =>
    simp only [paramApplier, applyProbeMap] at h
    split at h
    · cases h; exact hs
    · cases h
      exact (hs.updLanePar _ fun l => .probeMap _).of_settings (State.recomputeLane_settings _ _)
  | probeEn =>
    simp only [paramApplier, applyProbeEn] at h
    split at h
    · cases h; exact hs
    · split at h
      · cases h; exact hs.updProbe _ fun u hu => hu
      · cases h
        have hp := hs.updProbe (Fin.ofNat 4 k)
          (f := fun u => { u with state := .disabled, outRun := 0, inRun := 0, spikeRun := 0 }) fun u hu => hu
        split
        · exact hp.of_settings (State.recomputeLanes_steady _).settings
        · exact hp
  | hotTo | hotTh =>
    cases h
    exact hs.updProbe _ fun u hu => by
      obtain ⟨h1, h2, h3, h4⟩ := hu
      simp only [ProbeUnit.InRange, clampTemp_bounds, h1, h2, h3, h4, and_self]
  | coldTo | coldTh =>
    cases h
    exact hs.updProbe _ fun u hu => by
      obtain ⟨h1, h2, h3, h4⟩ := hu
      simp only [ProbeUnit.InRange, clampTemp_bounds, h1, h2, h3, h4, and_self]
  | hotMode | coldMode =>
    obtain ⟨m, -, rfl⟩ := Option.map_eq_some_iff.1 h
    exact hs.updProbe _ fun u hu => hu
  | slotLen n =>
    simp only [paramApplier, applySlotLen] at h
    split at h
    next hsome =>
      cases h
      obtain ⟨-, -, -, hframe, -, -⟩ := (parametersInRange_iff s).1 hs
      have hv := clampNat_bounds (show 0 ≤ 255 by omega) v
      refine hs.withPending (fun m => ?_) hsome
      rw [upd_get]
      split
      · exact hv.2
      · exact hframe m
    next => cases h
  | slotRule n =>
    obtain ⟨r, -, rfl⟩ := Option.map_eq_some_iff.1 h
    obtain ⟨-, -, -, hframe, hsome, -⟩ := (parametersInRange_iff s).1 hs
    refine hs.withPending (fun m => ?_) ?_
    · rw [upd_get]
      split
      · exact hframe m
      · exact hframe m
    · exact someLength_of_len (fun m => by rw [upd_get]; split <;> rfl) hsome
  | testPeriod =>
    have hv := clampNat_bounds (show 0 ≤ 1440 by omega) v
    have hp := hs.updPar (f := fun q => { q with testPeriod := clampNat 0 1440 v }) rfl
      fun hq => { hq with testPeriod := hv.2 }
    simp only [paramApplier, applyTestPeriod] at h
    split at h
    · cases h; exact hp
    · cases h; exact hp.of_settings (State.tests_settings _ _)
  | attnMask =>
    simp only [paramApplier, applyAttnMask] at h
    split at h
    next hv =>
      cases h
      refine hs.updPar rfl fun hq => { hq with attnMask := ?_ }
      show (byte v.toNat).toNat ≤ 63
      rw [byte_toNat]
      omega
    next => cases h

end Sys2Proof.Machine

namespace Sys2Proof.Machine

/-! ### Timers, the store and the load leave the settings -/

/-- The code that an auto-zero step of a strip aims at: one toward the idle mean, or B itself (R4). -/
def State.azTarget (s : State) (i : Strip) : Int :=
  let u := s.scu[i]
  let m := windowMean u.idleWin
  if m > u.base + s.par.azTol then u.base + 1 else if m < u.base - s.par.azTol then u.base - 1 else u.base

/-- An auto-zero step as its target decides it (R4, R5). -/
theorem State.autoZero_eq (s : State) (i : Strip) : s.autoZero i =
    if s.azTarget i = s.scu[i].base then s
    else if windowLow s.par.azl s.cst.working.strip[i].z ≤ s.azTarget i ∧
        s.azTarget i ≤ windowHigh s.par.azl s.cst.working.strip[i].z then
      if |s.azTarget i - s.cst.working.strip[i].z| < |s.scu[i].base - s.cst.working.strip[i].z| then
        (s.updScu i fun u => { u with base := s.azTarget i }).clearPinned i
      else s.updScu i fun u => { u with base := s.azTarget i }
    else if s.scu[i].pinned then s
    else s.updScu i fun u => { u with pinned := true, pinDue := some (after s.siteTime Config.pinnedRun) } := rfl

theorem State.autoZero_settings (s : State) (i : Strip) : SameSettings s (s.autoZero i) := by
  rw [State.autoZero_eq]
  repeat' split
  · exact .refl s
  · exact (s.updScu_settings i _).trans (State.clearPinned_steady _ i).settings
  · exact s.updScu_settings i _
  · exact .refl s
  · exact s.updScu_settings i _

theorem autoZeroStep_settings {i : Strip} {s t : State} (h : execAutoZeroStep i s = .next t) : SameSettings s t := by
  cases h
  split
  · simp only
    split
    · exact (s.updScu_settings i _).trans (State.autoZero_settings _ i)
    · exact s.updScu_settings i _
  · exact .refl s

theorem standingTimer_settings {i : Strip} {s t : State} (h : execStandingTimerExpiry i s = .next t) : SameSettings s t := by
  cases h
  split
  · exact ((s.updScu_settings i _).trans (State.clearPinned_steady _ i).settings).trans (State.evidence_steady _ i _).settings
  · exact .refl s

theorem State.cst_settings (s : State) (c : Cst) (p : Cpt) (b : Bool) :
    SameSettings s { s with cst := c, cpt := p, loaded := b } := ⟨rfl, fun _ => rfl, rfl, rfl, rfl⟩

theorem storeCompletion_settings {bytes : List Byte} {s t : State} (h : execStoreCompletion bytes s = .next t) :
    SameSettings s t := by
  cases h
  split
  · split
    · refine SameSettings.trans (foldl_keeps (I := SameSettings s) (fun u i hu => ?_) allStrips
        (s.cst_settings _ s.cpt s.loaded)) (State.cst_settings _ _ _ _)
      split
      · exact hu
      · exact hu.trans (u.windowChange_settings i)
    · exact s.cst_settings _ _ s.loaded
  · exact .refl s

theorem loadCompletion_settings {s t : State} (h : execLoadCompletion s = .next t) : SameSettings s t := by
  cases h
  split
  · exact .refl s
  · refine SameSettings.trans (foldl_keeps (I := SameSettings s) (fun u i hu => ?_) allStrips
      (s.cst_settings _ s.cpt true)) (State.beginSlot_steady _).settings
    exact hu.trans ((u.updScu_settings i _).trans (State.updTests_steady _ i _).settings)

theorem LanePar.default_inRange (p : Probe) : (LanePar.default p).InRange := by
  constructor <;> simp only [LanePar.default] <;> omega

theorem Par.reset_lane (n : Lane) : Par.reset.lane[n] = LanePar.default n := by
  fin_cases n <;> rfl

theorem Par.reset_siteInRange : Par.reset.SiteInRange := by constructor <;> decide

theorem ProbeUnit.reset_inRange : ProbeUnit.reset.InRange := by
  simp only [ProbeUnit.InRange, ProbeUnit.reset]
  omega

theorem Ptu.reset_probe (p : Probe) : Ptu.reset.probe[p] = ProbeUnit.reset := by simp [Ptu.reset]

theorem defaultFrame_inRange : FrameInRange defaultFrame := by
  intro n
  fin_cases n <;> decide

/-- Every default lies in its range (R207, R212). -/
theorem ParametersInRange.atReset (node : BitVec 2) (nv : Nonvolatile) (calsw : Bool) (pending : List Instr) :
    ParametersInRange (State.atReset node nv calsw pending) := by
  rw [parametersInRange_iff]
  refine ⟨fun n => ?_, Par.reset_siteInRange, fun p => ?_, defaultFrame_inRange, ?_, ?_⟩
  · show Par.reset.lane[n].InRange
    rw [Par.reset_lane]
    exact LanePar.default_inRange n
  · show Ptu.reset.probe[p].InRange
    rw [Ptu.reset_probe]
    exact ProbeUnit.reset_inRange
  · show someLength defaultFrame = true
    decide
  · show Mcs.reset.frame[Mcs.reset.pos].len ≠ 0
    decide

/-- A step to the next slot keeps a slot at the slot position (R43). -/
theorem ParametersInRange.advance {s : State} (hs : ParametersInRange s) : ParametersInRange { s with mcs := s.mcs.advance } := by
  rw [parametersInRange_iff] at hs ⊢
  obtain ⟨hlane, hsite, hprobe, hframe, hsome, -⟩ := hs
  refine ⟨hlane, hsite, hprobe, ?_, ?_, s.mcs.advance_slot_len hsome⟩
  · rw [Mcs.advance_pendingFrame]; exact hframe
  · rw [Mcs.advance_pendingFrame]; exact hsome

theorem parametersInRange_kept : Kept ParametersInRange :=
  .of_steady
    (steady := fun h => .of_settings h.settings)
    (applied := fun p k v _ _ hs => paramApplier_inRange p k v hs)
    (autoZeroStep := fun _ hs h => hs.of_settings (autoZeroStep_settings h))
    (standingTimer := fun _ hs h => hs.of_settings (standingTimer_settings h))
    (slotMoves := fun hs => hs.advance)
    (storeCompletion := fun _ hs h => hs.of_settings (storeCompletion_settings h))
    (deviceReset := .atReset)
    (loadCompletion := fun hs h => hs.of_settings (loadCompletion_settings h))
    (staged := fun {s} _ _ hs => hs.of_settings (s.cst_settings _ s.cpt s.loaded))
    (calLoad := fun {s} hs => hs.of_settings (s.cst_settings _ s.cpt s.loaded))

/-- Settles O56: every command keeps the settings or moves one parameter within its range. -/
theorem stepsKeepParametersInRange : Obligations.StepsKeepParametersInRange := fun _ _ hs h =>
  parametersInRange_kept.step hs h

end Sys2Proof.Machine

namespace Sys2Proof.Machine

/-! ### The re-evaluation of a strip, case by case (R164) -/

section
variable {s : State} {i : Strip}

theorem State.reevaluate_toSuspect (hst : s.shu[i].state = .inService) (hc : s.shu[i].causes.any = true) :
    s.reevaluate i = (s.updShu i (·.enter .suspect)).request i .suspect := by
  simp only [State.reevaluate, hst, hc]

theorem State.reevaluate_toService (hst : s.shu[i].state = .suspect) (hc : s.shu[i].causes.any = false) :
    s.reevaluate i = s.updShu i (·.enter .inService) := by
  simp only [State.reevaluate, hst, hc]

/-- The service state stands when it agrees with the cause set or is no verdict on the evidence. -/
theorem State.reevaluate_stays (h₁ : s.shu[i].state = .inService → s.shu[i].causes.any = false)
    (h₂ : s.shu[i].state = .suspect → s.shu[i].causes.any = true) : s.reevaluate i = s := by
  unfold State.reevaluate
  split
  next hst hc => exact absurd (h₁ hst) (by simp only [hc]; decide)
  next hst hc => exact absurd (h₂ hst) (by simp only [hc]; decide)
  next => rfl

/-- The three things that a re-evaluation can be. -/
theorem State.reevaluate_cases (s : State) (i : Strip) :
    (s.shu[i].state = .inService ∧ s.shu[i].causes.any = true) ∨
    (s.shu[i].state = .suspect ∧ s.shu[i].causes.any = false) ∨
    ((s.shu[i].state = .inService → s.shu[i].causes.any = false) ∧
      (s.shu[i].state = .suspect → s.shu[i].causes.any = true)) := by
  cases s.shu[i].state <;> cases s.shu[i].causes.any <;> simp

end

/-! ### Evidence acts on the health records and the test queue alone -/

theorem State.reevaluate_outside (s : State) (i : Strip) (p : Par) (u : Vector Scu 16) (a : Apu) (k : Cst) (c : Cpt) :
    ({ s with par := p, scu := u, apu := a, cst := k, cpt := c } : State).reevaluate i =
      { s.reevaluate i with par := p, scu := u, apu := a, cst := k, cpt := c } := by
  obtain ⟨hst, hc⟩ | ⟨hst, hc⟩ | ⟨h₁, h₂⟩ := s.reevaluate_cases i
  · rw [State.reevaluate_toSuspect hst hc]; exact State.reevaluate_toSuspect hst hc
  · rw [State.reevaluate_toService hst hc]; exact State.reevaluate_toService hst hc
  · rw [State.reevaluate_stays h₁ h₂]; exact State.reevaluate_stays h₁ h₂

theorem State.evidence_void {s : State} {i : Strip} {f : Causes → Causes}
    (h : s.shu[i].state = .disabled ∨ f s.shu[i].causes = s.shu[i].causes) : s.evidence i f = s := if_pos h

theorem State.evidence_changes {s : State} {i : Strip} {f : Causes → Causes}
    (h : ¬ (s.shu[i].state = .disabled ∨ f s.shu[i].causes = s.shu[i].causes)) :
    s.evidence i f = (s.updShu i fun h => { h with causes := f h.causes }).reevaluate i := if_neg h

/-- What evidence does to the health records and the test queue does not depend on the other blocks. -/
theorem State.evidence_outside (s : State) (i : Strip) (f : Causes → Causes) (p : Par) (u : Vector Scu 16) (a : Apu) (k : Cst)
    (c : Cpt) :
    ({ s with par := p, scu := u, apu := a, cst := k, cpt := c } : State).evidence i f =
      { s.evidence i f with par := p, scu := u, apu := a, cst := k, cpt := c } := by
  by_cases h : s.shu[i].state = .disabled ∨ f s.shu[i].causes = s.shu[i].causes
  · rw [State.evidence_void h]; exact State.evidence_void h
  · rw [State.evidence_changes h]
    exact (State.evidence_changes (s := { s with par := p, scu := u, apu := a, cst := k, cpt := c }) h).trans
      ((s.updShu i fun h => { h with causes := f h.causes }).reevaluate_outside i p u a k c)

/-! ### A window change is a move of the channel and a withdrawal of DRIFT (R2, R5) -/

theorem upd_upd {α : Type} {n : Nat} (v : Vector α n) (i : Fin n) (f g : α → α) :
    upd (upd v i f) i g = upd v i fun a => g (f a) := by
  apply Vector.ext
  intro k hk
  simp only [upd_getElem]
  split <;> rfl

theorem State.updScu_updScu (s : State) (i : Strip) (f g : Scu → Scu) :
    (s.updScu i f).updScu i g = s.updScu i fun u => g (f u) := by
  simp only [State.updScu, upd_upd]

/-- DRIFT of a strip is withdrawn (R168). -/
def State.withdrawDrift (s : State) (i : Strip) : State := s.evidence i fun c => { c with drift := false }

/-- A strip's channel after a window change (R2, R5). -/
def State.rewindowed (s : State) (i : Strip) (u : Scu) : Scu :=
  { u with base := s.clampBase i u.base, pinned := false, pinDue := none }

theorem State.windowChange_eq (s : State) (i : Strip) :
    s.windowChange i = (s.updScu i (s.rewindowed i)).withdrawDrift i := by
  rw [State.windowChange, State.clearPinned, State.updScu_updScu]
  rfl

/-- The channels after the window changes of some strips. -/
def State.rewindowAll (s : State) (l : List Strip) : State :=
  { s with scu := Vector.ofFn fun i => if i ∈ l then s.rewindowed i s.scu[i] else s.scu[i] }

theorem State.rewindowAll_cons (s : State) {i : Strip} {l : List Strip} (h : i ∉ l) :
    (s.updScu i (s.rewindowed i)).rewindowAll l = s.rewindowAll (i :: l) := by
  have hv : ((s.updScu i (s.rewindowed i)).rewindowAll l).scu = (s.rewindowAll (i :: l)).scu := by
    apply Vector.ext
    intro k hk
    by_cases e : i.val = k
    · subst e
      simp [State.rewindowAll, h]
    · have hne : (⟨k, hk⟩ : Strip) ≠ i := fun hc => e (by rw [← hc])
      simp [State.rewindowAll, e, hne]
      rfl
  exact congrArg (fun v => { s with scu := v }) hv

theorem State.rewindowAll_nil (s : State) : s.rewindowAll [] = s := by
  have hv : (s.rewindowAll []).scu = s.scu := by
    apply Vector.ext
    intro k hk
    simp [State.rewindowAll]
  exact congrArg (fun v => { s with scu := v }) hv

theorem State.rewindowAll_withdrawDrift (s : State) (i : Strip) (l : List Strip) :
    (s.withdrawDrift i).rewindowAll l = (s.rewindowAll l).withdrawDrift i := by
  have h := s.evidence_outside i (fun c => { c with drift := false }) s.par (s.rewindowAll l).scu s.apu s.cst s.cpt
  obtain ⟨-, -, hpar, hscu, -, hapu, -, -, -, hcst, hcpt, -⟩ := s.evidence_frame i fun c => { c with drift := false }
  refine Eq.trans ?_ h.symm
  simp only [State.rewindowAll, State.withdrawDrift, State.rewindowed, State.clampBase, hpar, hscu, hcst, ← hapu, ← hcpt]

/-- The window changes of some strips are a move of their channels, after which DRIFT is withdrawn strip by strip. -/
theorem State.foldl_windowChange (s : State) {l : List Strip} (h : l.Nodup) :
    l.foldl State.windowChange s = l.foldl State.withdrawDrift (s.rewindowAll l) := by
  induction l generalizing s with
  | nil => exact s.rewindowAll_nil.symm
  | cons i l ih =>
    obtain ⟨hi, hl⟩ := List.nodup_cons.1 h
    calc l.foldl State.windowChange (s.windowChange i)
        = l.foldl State.withdrawDrift ((s.windowChange i).rewindowAll l) := ih _ hl
      _ = l.foldl State.withdrawDrift ((s.rewindowAll (i :: l)).withdrawDrift i) := by
        rw [State.windowChange_eq, State.rewindowAll_withdrawDrift, State.rewindowAll_cons s hi]

theorem State.foldl_withdrawDrift_scu (s : State) (l : List Strip) : (l.foldl State.withdrawDrift s).scu = s.scu := by
  induction l generalizing s with
  | nil => rfl
  | cons i l ih => rw [List.foldl_cons, ih]; simp [State.withdrawDrift]

theorem State.foldl_withdrawDrift_cst (s : State) (l : List Strip) : (l.foldl State.withdrawDrift s).cst = s.cst := by
  induction l generalizing s with
  | nil => rfl
  | cons i l ih => rw [List.foldl_cons, ih]; simp [State.withdrawDrift]

theorem State.foldl_withdrawDrift_par (s : State) (l : List Strip) : (l.foldl State.withdrawDrift s).par = s.par := by
  induction l generalizing s with
  | nil => rfl
  | cons i l ih => rw [List.foldl_cons, ih]; simp [State.withdrawDrift]

end Sys2Proof.Machine

namespace Sys2Proof.Machine

/-! ### What a written parameter leaves (R207) -/

/-- Parameters other than AZL and ENABLE change parameters, temperatures, the pending frame and the periodic timers only, and
leave AZL (R207). -/
theorem paramApplier_frame {p : Param} (ha : p ≠ .azl) (he : p ≠ .enable) {k : Nat} {v : Int} {s t : State}
    (h : paramApplier p k v s = some t) :
    t = { s with
      par := t.par, ptu := t.ptu, mcs := { s.mcs with pendingFrame := t.mcs.pendingFrame, strip := t.mcs.strip } } ∧
    t.par.azl = s.par.azl := by
  cases p with
  | azl => exact absurd rfl ha
  | enable => exact absurd rfl he
  | tOn | tOff | nb | noiseLim | wLr | spdtol | maxsp | maxclose | rdt => cases h; exact ⟨rfl, rfl⟩
  | azTol | azStep | grp | tempHold | testLimit | missLim | holdoff | straddleEn => cases h; exact ⟨rfl, rfl⟩
  | hotTo | hotTh | coldTo | coldTh => cases h; exact ⟨rfl, rfl⟩
  | hotMode | coldMode =>
    obtain ⟨m, -, rfl⟩ := Option.map_eq_some_iff.1 h
    exact ⟨rfl, rfl⟩
  | probeMap =>
    simp only [paramApplier, applyProbeMap] at h
    split at h
    · cases h; exact ⟨rfl, rfl⟩
    · cases h; exact ⟨rfl, rfl⟩
  | probeEn =>
    simp only [paramApplier, applyProbeEn] at h
    split at h
    · cases h; exact ⟨rfl, rfl⟩
    · split at h
      · cases h; exact ⟨rfl, rfl⟩
      · cases h
        split
        · exact ⟨rfl, rfl⟩
        · exact ⟨rfl, rfl⟩
  | slotLen n =>
    simp only [paramApplier, applySlotLen] at h
    split at h
    · cases h; exact ⟨rfl, rfl⟩
    · cases h
  | slotRule n =>
    obtain ⟨r, -, rfl⟩ := Option.map_eq_some_iff.1 h
    exact ⟨rfl, rfl⟩
  | testPeriod =>
    simp only [paramApplier, applyTestPeriod] at h
    split at h
    · cases h; exact ⟨rfl, rfl⟩
    · cases h; exact ⟨rfl, rfl⟩
  | attnMask =>
    simp only [paramApplier, applyAttnMask] at h
    split at h
    · cases h; exact ⟨rfl, rfl⟩
    · cases h

/-! ### A walk over the strips that changes one element of a vector at each -/

theorem foldl_upd {α : Type} {n : Nat} (f : Fin n → α → α) {l : List (Fin n)} (h : l.Nodup) (v : Vector α n) :
    l.foldl (fun v i => upd v i (f i)) v = Vector.ofFn fun i => if i ∈ l then f i v[i] else v[i] := by
  induction l generalizing v with
  | nil => apply Vector.ext; intro k hk; simp
  | cons j l ih =>
    obtain ⟨hj, hl⟩ := List.nodup_cons.1 h
    rw [List.foldl_cons, ih hl]
    apply Vector.ext
    intro k hk
    simp only [Vector.getElem_ofFn, Fin.getElem_fin, upd_getElem, List.mem_cons]
    by_cases e : j.val = k
    · have hk' : (⟨k, hk⟩ : Fin n) = j := Fin.ext e.symm
      simp only [hk', hj, if_true, if_false, true_or, e]
    · have hk' : (⟨k, hk⟩ : Fin n) ≠ j := fun hc => e (congrArg Fin.val hc).symm
      simp only [hk', e, if_false, false_or]

theorem allStrips_nodup : allStrips.Nodup := by decide

theorem mem_allStrips (i : Strip) : i ∈ allStrips := by revert i; decide

/-! ### The start-up load, strip by strip (R21, R58) -/

/-- The start of a strip at the load completion (R21, R58). -/
def State.startStrip (s : State) (i : Strip) : State :=
  (s.updScu i fun u =>
    { u with
      base := s.cst.working.strip[i].z
      azDue := some (after s.siteTime (s.par.azStep * 160))
      noiseDue := some (after s.siteTime Config.noiseRun) }).updTests i fun t => { t with periodicDue := s.nextPeriod }

/-- The calibration store has loaded its copies (R197). -/
def State.loadTaken (s : State) : State := { s.updCst Cst.load with loaded := true }

theorem execLoadCompletion_eq {s : State} (h : s.loaded = false) :
    execLoadCompletion s = .next (allStrips.foldl State.startStrip s.loadTaken).beginSlot := by
  have hf : ¬ s.loaded = true := by simp [h]
  simp only [execLoadCompletion, if_neg hf]
  generalize allStrips = l
  rfl

/-- All strips started. -/
def State.startStrips (s : State) : State :=
  { s with
    scu := Vector.ofFn fun i =>
      { s.scu[i] with
        base := s.cst.working.strip[i].z
        azDue := some (after s.siteTime (s.par.azStep * 160))
        noiseDue := some (after s.siteTime Config.noiseRun) }
    mcs := { s.mcs with strip := mapAll s.mcs.strip fun t => { t with periodicDue := s.nextPeriod } } }

theorem State.foldl_startStrip (s : State) : allStrips.foldl State.startStrip s = s.startStrips := by
  have walk (l : List Strip) (s : State) : l.foldl State.startStrip s = { s with
      scu := l.foldl (fun v i => upd v i fun u =>
        { u with
          base := s.cst.working.strip[i].z
          azDue := some (after s.siteTime (s.par.azStep * 160))
          noiseDue := some (after s.siteTime Config.noiseRun) }) s.scu
      mcs := { s.mcs with
        strip := l.foldl (fun v i => upd v i fun t => { t with periodicDue := s.nextPeriod }) s.mcs.strip } } := by
    induction l generalizing s with
    | nil => rfl
    | cons i l ih => exact ih (s.startStrip i)
  rw [walk, foldl_upd _ allStrips_nodup, foldl_upd _ allStrips_nodup]
  simp only [mem_allStrips, if_true]
  rfl

/-! ### A successful store, step by step (R192) -/

/-- The calibration store after a successful completion (R192 steps 1 to 5). -/
def Cst.storedWith (k : Cst) (readBack : List Byte) : Cst :=
  let nv := k.nv.stored readBack k.staging.crc
  { k with nv := nv, counter := nv.counter, working := k.staging, store := none, invalid := false, unstored := false }

/-- The strips whose factory zero a store changes (R2). -/
def Cst.zMoves (k : Cst) (i : Strip) : Bool := k.staging.strip[i].z != k.working.strip[i].z

/-- The window changes after a successful store, of the strips whose factory zero has changed. -/
def State.storeMoves (s : State) (readBack : List Byte) : State :=
  (allStrips.filter s.cst.zMoves).foldl State.windowChange (s.updCst fun k => k.storedWith readBack)

theorem State.storeSuccess_eq (s : State) (readBack : List Byte) :
    s.storeSuccess readBack =
      { s.storeMoves readBack with cpt := { (s.storeMoves readBack).cpt with calEvent := true } } := by
  have walk (l : List Strip) (u : State) (hu : u.cst.working = s.cst.staging) :
      l.foldl (fun u i => if u.cst.working.strip[i].z = s.cst.working.strip[i].z then u else u.windowChange i) u =
        (l.filter s.cst.zMoves).foldl State.windowChange u := by
    induction l generalizing u with
    | nil => rfl
    | cons i l ih =>
      by_cases hz : s.cst.staging.strip[i].z = s.cst.working.strip[i].z
      · have hm : ¬ s.cst.zMoves i = true := by simp only [Cst.zMoves, hz, bne_self_eq_false]; decide
        rw [List.filter_cons_of_neg hm, List.foldl_cons, hu, if_pos hz]
        exact ih u hu
      · have hm : s.cst.zMoves i = true := bne_iff_ne.2 hz
        rw [List.filter_cons_of_pos hm, List.foldl_cons, List.foldl_cons, hu, if_neg hz]
        exact ih _ (by simp [hu])
  unfold State.storeSuccess State.storeMoves
  generalize allStrips = l
  exact congrArg (fun u : State => { u with cpt := { u.cpt with calEvent := true } })
    (walk l (s.updCst fun k => k.storedWith readBack) rfl)

end Sys2Proof.Machine

namespace Sys2Proof.Machine

/-! ### Baselines in their windows (R2) -/

/-- A baseline lies in the window of a factory zero. -/
def InWindow (azl : Nat) (z b : Int) : Prop := windowLow azl z ≤ b ∧ b ≤ windowHigh azl z

theorem windowLow_le_windowHigh {azl : Nat} {z : Int} (h : -32768 ≤ z ∧ z ≤ 32767) : windowLow azl z ≤ windowHigh azl z := by
  simp only [windowLow, windowHigh]
  omega

theorem clamp_inWindow {azl : Nat} {z : Int} (h : -32768 ≤ z ∧ z ≤ 32767) (b : Int) :
    InWindow azl z (clamp (windowLow azl z) (windowHigh azl z) b) := clamp_bounds (windowLow_le_windowHigh h) b

theorem inWindow_self (azl : Nat) {z : Int} (h : -32768 ≤ z ∧ z ≤ 32767) : InWindow azl z z := by
  simp only [InWindow, windowLow, windowHigh]
  omega

theorem s16_bounds (p : List Byte) (k : Nat) : -32768 ≤ s16 p k ∧ s16 p k ≤ 32767 := by
  have h1 := BitVec.le_toInt (BitVec.ofNat 16 (u16 p k))
  have h2 := BitVec.toInt_lt (x := BitVec.ofNat 16 (u16 p k))
  simp only [s16]
  omega

theorem BaselinesInWindow.of_steady {s t : State} (h : Steady s t) (hs : BaselinesInWindow s) : BaselinesInWindow t := by
  obtain ⟨hw, hst, hb⟩ := hs
  simp only [BaselinesInWindow, ZeroInRange, h.working, h.staging, h.base, h.par]
  exact ⟨hw, hst, hb⟩

/-- A baseline set inside its window. -/
theorem BaselinesInWindow.updScu {s : State} (hs : BaselinesInWindow s) (i : Strip) {f : Scu → Scu}
    (hf : InWindow s.par.azl s.cst.working.strip[i].z (f s.scu[i]).base) : BaselinesInWindow (s.updScu i f) := by
  obtain ⟨hw, hst, hb⟩ := hs
  refine ⟨hw, hst, fun j => ?_⟩
  simp only [State.updScu_scu, upd_get]
  split
  next e => subst e; exact hf
  next => exact hb j

/-- A state after the withdrawals of DRIFT is judged by what it was before them. -/
theorem baselinesInWindow_withdrawDrift {s : State} {l : List Strip} :
    BaselinesInWindow (l.foldl State.withdrawDrift s) ↔ BaselinesInWindow s := by
  simp only [BaselinesInWindow, State.foldl_withdrawDrift_scu, State.foldl_withdrawDrift_cst, State.foldl_withdrawDrift_par]

theorem State.rewindowAll_base (s : State) (l : List Strip) (i : Strip) :
    (s.rewindowAll l).scu[i].base = if i ∈ l then s.clampBase i s.scu[i].base else s.scu[i].base := by
  simp only [State.rewindowAll, Fin.getElem_fin, Vector.getElem_ofFn]
  split <;> rfl

/-- The window changes of the strips whose windows have moved bring every baseline into its window. -/
theorem BaselinesInWindow.windowChanges {s : State} {l : List Strip} (hl : l.Nodup) (hw : ZeroInRange s.cst.working)
    (hst : ZeroInRange s.cst.staging)
    (hb : ∀ i : Strip, i ∉ l → InWindow s.par.azl s.cst.working.strip[i].z s.scu[i].base) :
    BaselinesInWindow (l.foldl State.windowChange s) := by
  rw [State.foldl_windowChange s hl, baselinesInWindow_withdrawDrift]
  refine ⟨hw, hst, fun i => ?_⟩
  rw [State.rewindowAll_base]
  split
  next => exact clamp_inWindow (hw i) _
  next hi => exact hb i hi

theorem paramApplier_inWindow (p : Param) (k : Nat) (v : Int) {s t : State} (hs : BaselinesInWindow s)
    (h : paramApplier p k v s = some t) : BaselinesInWindow t := by
  obtain ⟨hw, hst, hb⟩ := hs
  by_cases ha : p = .azl
  · subst ha
    simp only [paramApplier, applyAzl] at h
    split at h
    · rw [← Option.some.inj h]; exact ⟨hw, hst, hb⟩
    · rw [← Option.some.inj h]
      exact .windowChanges allStrips_nodup hw hst fun i hi => absurd (mem_allStrips i) hi
  by_cases he : p = .enable
  · subst he
    simp only [paramApplier, applyEnable] at h
    split at h
    · cases h; exact ⟨hw, hst, hb⟩
    · split at h
      · cases h; exact .updScu ⟨hw, hst, hb⟩ _ (hb _)
      · cases h; exact .updScu ⟨hw, hst, hb⟩ _ (hb _)
  · obtain ⟨hrest, hazl⟩ := paramApplier_frame ha he h
    have hscu : t.scu = s.scu := by rw [hrest]
    have hcst : t.cst = s.cst := by rw [hrest]
    simp only [BaselinesInWindow, hscu, hcst, hazl]
    exact ⟨hw, hst, hb⟩

theorem autoZero_inWindow {s : State} (hs : BaselinesInWindow s) (i : Strip) : BaselinesInWindow (s.autoZero i) := by
  rw [State.autoZero_eq]
  repeat' split
  next => exact hs
  next hin _ => exact .of_steady (State.clearPinned_steady _ i) (hs.updScu i hin)
  next hin _ => exact hs.updScu i hin
  next => exact hs
  next => exact hs.of_steady (s.updScu_steady i _ rfl)

theorem autoZeroStep_inWindow {i : Strip} {s t : State} (hs : BaselinesInWindow s) (h : execAutoZeroStep i s = .next t) :
    BaselinesInWindow t := by
  cases h
  split
  · have h1 := hs.of_steady (s.updScu_steady i (fun u => { u with azDue := some (after s.siteTime (s.par.azStep * 160)) }) rfl)
    simp only
    split
    · exact autoZero_inWindow h1 i
    · exact h1
  · exact hs

theorem standingTimer_inWindow {i : Strip} {s t : State} (hs : BaselinesInWindow s)
    (h : execStandingTimerExpiry i s = .next t) : BaselinesInWindow t := by
  cases h
  split
  · exact ((hs.updScu i (clamp_inWindow (hs.1 i) _)).of_steady (State.clearPinned_steady _ i)).of_steady
      (State.evidence_steady _ i _)
  · exact hs

theorem storeMoves_inWindow {s : State} (hs : BaselinesInWindow s) (bytes : List Byte) :
    BaselinesInWindow (s.storeMoves bytes) := by
  obtain ⟨hw, hst, hb⟩ := hs
  refine .windowChanges (allStrips_nodup.filter _) hst hst fun i hi => ?_
  have hz : s.cst.staging.strip[i].z = s.cst.working.strip[i].z := by
    simpa [mem_allStrips, Cst.zMoves] using hi
  show InWindow s.par.azl s.cst.staging.strip[i].z s.scu[i].base
  rw [hz]
  exact hb i

theorem storeCompletion_inWindow {bytes : List Byte} {s t : State} (hs : BaselinesInWindow s)
    (h : execStoreCompletion bytes s = .next t) : BaselinesInWindow t := by
  rw [← Host.Outcome.next.inj h]
  split
  · split
    · rw [State.storeSuccess_eq]
      exact storeMoves_inWindow hs bytes
    · exact hs
  · exact hs

theorem ZeroInRange.ofBytes (p : List Byte) : ZeroInRange (CalSet.ofBytes p) := by
  intro i
  simp only [CalSet.ofBytes, Fin.getElem_fin, Vector.getElem_ofFn]
  exact s16_bounds p _

theorem ZeroInRange.clamped {c : CalSet} (h : ZeroInRange c) : ZeroInRange c.clamped := by
  intro i
  simpa [CalSet.clamped] using h i

theorem ZeroInRange.load (k : Cst) : ZeroInRange k.load.working := by
  simp only [Cst.load]
  split
  · exact .ofBytes _
  · exact (ZeroInRange.ofBytes _).clamped

theorem loadCompletion_inWindow {s t : State} (hs : BaselinesInWindow s) (h : execLoadCompletion s = .next t) :
    BaselinesInWindow t := by
  cases hl : s.loaded with
  | true =>
    simp only [execLoadCompletion, hl, if_true] at h
    cases h
    exact hs
  | false =>
    rw [execLoadCompletion_eq hl, State.foldl_startStrip] at h
    rw [← Host.Outcome.next.inj h]
    refine BaselinesInWindow.of_steady (State.beginSlot_steady _) ⟨ZeroInRange.load _, ZeroInRange.load _, fun i => ?_⟩
    simp only [State.startStrips, Fin.getElem_fin, Vector.getElem_ofFn]
    exact inWindow_self _ (ZeroInRange.load s.cst i)

theorem BaselinesInWindow.atReset (node : BitVec 2) (nv : Nonvolatile) (calsw : Bool) (pending : List Instr) :
    BaselinesInWindow (State.atReset node nv calsw pending) := by
  have hz : ∀ i : Strip, CalSet.blank.strip[i].z = 0 := by simp [CalSet.blank]
  have hb : ∀ i : Strip, (State.atReset node nv calsw pending).scu[i].base = 0 := by simp [State.atReset, Scu.reset]
  refine ⟨fun i => ?_, fun i => ?_, fun i => ?_⟩
  · show -32768 ≤ CalSet.blank.strip[i].z ∧ CalSet.blank.strip[i].z ≤ 32767
    rw [hz]; omega
  · show -32768 ≤ CalSet.blank.strip[i].z ∧ CalSet.blank.strip[i].z ≤ 32767
    rw [hz]; omega
  · show InWindow 1024 CalSet.blank.strip[i].z _
    rw [hz, hb]
    exact inWindow_self 1024 (by omega)

theorem BaselinesInWindow.staged {s : State} (hs : BaselinesInWindow s) {c : CalSet} (hc : ZeroInRange c) :
    BaselinesInWindow (s.stage c) := ⟨hs.1, hc, hs.2.2⟩

theorem baselinesInWindow_kept : Kept BaselinesInWindow :=
  .of_steady
    (steady := .of_steady)
    (applied := fun p k v _ _ hs => paramApplier_inWindow p k v hs)
    (autoZeroStep := fun _ => autoZeroStep_inWindow)
    (standingTimer := fun _ => standingTimer_inWindow)
    (slotMoves := fun hs => hs)
    (storeCompletion := fun _ => storeCompletion_inWindow)
    (deviceReset := .atReset)
    (loadCompletion := loadCompletion_inWindow)
    (staged := fun {s} i item hs => hs.staged fun j => by
      simp only [upd_get]
      split
      · exact s16_bounds item _
      · exact hs.2.1 j)
    (calLoad := fun hs => hs.staged hs.1)

/-- Settles O57: a baseline moves one code inside its window, or is clamped into the window as it stands after the move. -/
theorem stepsKeepBaselinesInWindow : Obligations.StepsKeepBaselinesInWindow := fun _ _ hs h =>
  baselinesInWindow_kept.step hs h

end Sys2Proof.Machine

namespace Sys2Proof.Machine

/-! ### The order of the test queue (R47) -/

theorem TestEntry.before_iff (a b : TestEntry) : a.before b = true ↔
    a.origin.rank < b.origin.rank ∨ (a.origin.rank = b.origin.rank ∧ a.stamp < b.stamp) := by
  simp [TestEntry.before]

theorem TestEntry.before_trans {a b c : TestEntry} (h : a.before b = true) (k : b.before c = true) : a.before c = true := by
  rw [TestEntry.before_iff] at *
  omega

/-- Of two entries with different stamps one stands before the other. -/
theorem TestEntry.before_total {a b : TestEntry} (h : a.stamp ≠ b.stamp) (k : ¬ a.before b = true) : b.before a = true := by
  rw [TestEntry.before_iff] at *
  omega

theorem insertTest_perm (e : TestEntry) (l : List TestEntry) : (insertTest e l).Perm (e :: l) := by
  induction l with
  | nil => exact .refl _
  | cons q qs ih =>
    simp only [insertTest]
    split
    · exact .refl _
    · exact (ih.cons q).trans (.swap e q qs)

/-- An entry with a stamp of its own takes its place in the order. -/
theorem insertTest_pairwise {e : TestEntry} {l : List TestEntry} (hl : l.Pairwise fun a b => a.before b = true)
    (he : ∀ x ∈ l, x.stamp ≠ e.stamp) : (insertTest e l).Pairwise fun a b => a.before b = true := by
  induction l with
  | nil => exact List.pairwise_singleton _ e
  | cons q qs ih =>
    obtain ⟨hq, hqs⟩ := List.pairwise_cons.1 hl
    simp only [insertTest]
    split
    next h =>
      refine List.pairwise_cons.2 ⟨fun x hx => ?_, hl⟩
      obtain rfl | hx := List.mem_cons.1 hx
      · exact h
      · exact TestEntry.before_trans h (hq x hx)
    next h =>
      have hqe : q.before e = true := TestEntry.before_total (he q List.mem_cons_self).symm h
      refine List.pairwise_cons.2 ⟨fun x hx => ?_, ih hqs fun x hx => he x (List.mem_cons_of_mem q hx)⟩
      obtain rfl | hx := List.mem_cons.1 ((insertTest_perm e qs).mem_iff.1 hx)
      · exact hqe
      · exact hq x hx

/-! ### Entries of the queue and in flight (R47, R48, R53, R55) -/

/-- Entries of different strips, with different stamps that all lie behind the next one. -/
def EntriesSound (l : List TestEntry) (n : Nat) : Prop :=
  (l.map (·.strip)).Nodup ∧ (l.map (·.stamp)).Nodup ∧ ∀ e ∈ l, e.stamp < n

theorem EntriesSound.perm {l k : List TestEntry} {n : Nat} (h : l.Perm k) (hl : EntriesSound l n) : EntriesSound k n :=
  ⟨(h.map _).nodup_iff.1 hl.1, (h.map _).nodup_iff.1 hl.2.1, fun e he => hl.2.2 e (h.mem_iff.2 he)⟩

theorem EntriesSound.sublist {l k : List TestEntry} {n : Nat} (h : k.Sublist l) (hl : EntriesSound l n) : EntriesSound k n :=
  ⟨hl.1.sublist (h.map _), hl.2.1.sublist (h.map _), fun e he => hl.2.2 e (h.subset he)⟩

/-- A strip without an entry gets one with the next stamp. -/
theorem EntriesSound.cons_fresh {l : List TestEntry} {n : Nat} {e : TestEntry} (hl : EntriesSound l n)
    (he : ∀ x ∈ l, x.strip ≠ e.strip) (hn : e.stamp = n) : EntriesSound (e :: l) (n + 1) := by
  obtain ⟨hstrip, hstamp, hlt⟩ := hl
  refine ⟨List.nodup_cons.2 ⟨?_, hstrip⟩, List.nodup_cons.2 ⟨?_, hstamp⟩, ?_⟩
  · intro hm
    obtain ⟨x, hx, hxe⟩ := List.mem_map.1 hm
    exact he x hx hxe
  · intro hm
    obtain ⟨x, hx, hxe⟩ := List.mem_map.1 hm
    exact absurd (hlt x hx) (by rw [show x.stamp = n from hxe.trans hn]; exact lt_irrefl n)
  · intro x hx
    obtain rfl | hx := List.mem_cons.1 hx
    · omega
    · have := hlt x hx
      omega

/-- An entry's origin and abort count are no part of it. -/
theorem EntriesSound.cons_same {l : List TestEntry} {n : Nat} {e d : TestEntry} (hl : EntriesSound (e :: l) n)
    (hi : d.strip = e.strip) (hs : d.stamp = e.stamp) : EntriesSound (d :: l) n := by
  obtain ⟨hstrip, hstamp, hlt⟩ := hl
  refine ⟨by simpa [hi] using hstrip, by simpa [hs] using hstamp, fun x hx => ?_⟩
  obtain rfl | hx := List.mem_cons.1 hx
  · rw [hs]; exact hlt e List.mem_cons_self
  · exact hlt x (List.mem_cons_of_mem e hx)

/-- The queue and the entry in flight as R47 has them. -/
def Mcs.sound (m : Mcs) : Prop := EntriesSound m.entries m.stamps ∧ m.queue.Pairwise fun a b => a.before b = true

theorem Mcs.entries_of_none {m : Mcs} (h : m.flight = none) : m.entries = m.queue := by simp [Mcs.entries, h]

theorem Mcs.entries_of_some {m : Mcs} {f : Flight} (h : m.flight = some f) : m.entries.Perm (f.entry :: m.queue) := by
  simp only [Mcs.entries, h, Option.map_some, Option.toList_some]
  exact List.perm_append_comm

/-- The queue alone is as sound as the queue with the entry in flight. -/
theorem Mcs.sound.queue {m : Mcs} (h : m.sound) : EntriesSound m.queue m.stamps :=
  h.1.sublist (List.sublist_append_left _ _)

theorem Mcs.sound.of_fields {m k : Mcs} (h : m.sound) (hq : k.queue = m.queue) (hf : k.flight.map (·.entry) = m.flight.map (·.entry))
    (hs : k.stamps = m.stamps) : k.sound := by
  simpa only [Mcs.sound, Mcs.entries, hq, hf, hs] using h

/-- A test in flight leaves the part: it is given up or has its result. -/
theorem Mcs.sound.drop {m : Mcs} (h : m.sound) : Mcs.sound { m with flight := none } :=
  ⟨by simpa [Mcs.entries] using h.queue, h.2⟩

/-- A test in flight returns to the queue (R55). -/
theorem Mcs.sound.return {m : Mcs} (h : m.sound) {f : Flight} (hf : m.flight = some f) (n : Nat) :
    Mcs.sound { m with queue := insertTest { f.entry with aborts := n } m.queue, flight := none } := by
  obtain ⟨he, hq⟩ := h
  have hcons := he.perm (Mcs.entries_of_some hf)
  refine ⟨?_, insertTest_pairwise hq fun x hx hxf => ?_⟩
  · simpa [Mcs.entries] using (hcons.cons_same (d := { f.entry with aborts := n }) rfl rfl).perm (insertTest_perm _ _).symm
  · exact (List.nodup_cons.1 hcons.2.1).1 (List.mem_map.2 ⟨x, hx, hxf⟩)

/-- An entry of the queue goes into flight (R53). -/
theorem Mcs.sound.charge {m : Mcs} (h : m.sound) (hf : m.flight = none) {e : TestEntry} (he : e ∈ m.queue) (w : Work) :
    Mcs.sound { m with
      queue := m.queue.filter fun q => q.strip ≠ e.strip, flight := some { entry := e, phase := .charge }, work := w } := by
  obtain ⟨hent, hq⟩ := h
  rw [Mcs.entries_of_none hf] at hent
  refine ⟨?_, hq.filter _⟩
  obtain ⟨a, b, hab⟩ := List.append_of_mem he
  have hfilter : m.queue.filter (fun q => q.strip ≠ e.strip) =
      a.filter (fun q => q.strip ≠ e.strip) ++ b.filter (fun q => q.strip ≠ e.strip) := by
    simp [hab]
  refine EntriesSound.perm (Mcs.entries_of_some rfl).symm ?_
  show EntriesSound (e :: m.queue.filter fun q => q.strip ≠ e.strip) m.stamps
  rw [hfilter]
  refine EntriesSound.perm List.perm_middle (hent.sublist ?_)
  rw [hab]
  exact List.filter_sublist.append (List.filter_sublist.cons_cons e)

/-- A request finds no test of its strip in flight: the entry it makes takes its place in the queue. -/
theorem Mcs.sound.enter {m : Mcs} (h : m.sound) {e : TestEntry} {q : List TestEntry}
    (hf : ∀ f, m.flight = some f → f.entry.strip ≠ e.strip) (hq : q.Sublist m.queue) (he : ∀ x ∈ q, x.strip ≠ e.strip) (hs : e.stamp = m.stamps) :
    Mcs.sound { m with queue := insertTest e q, stamps := m.stamps + 1 } := by
  obtain ⟨hent, hord⟩ := h
  have hsub : (q ++ (m.flight.map (·.entry)).toList).Sublist m.entries := hq.append_right _
  have hall : ∀ x ∈ q ++ (m.flight.map (·.entry)).toList, x.strip ≠ e.strip := by
    intro x hx
    obtain hx | hx := List.mem_append.1 hx
    · exact he x hx
    · obtain ⟨f, hf', rfl⟩ : ∃ f, m.flight = some f ∧ f.entry = x := by simpa using hx
      exact hf f hf'
  refine ⟨?_, insertTest_pairwise (hord.sublist hq) fun x hx hxe => ?_⟩
  · exact ((hent.sublist hsub).cons_fresh hall hs).perm ((insertTest_perm e q).symm.append_right _)
  · have := hent.2.2 x (List.mem_append_left _ (hq.subset hx))
    omega

theorem Mcs.request_flight (m : Mcs) (i : Strip) (o : Origin) :
    (m.request i o).flight.map (·.entry.strip) = m.flight.map (·.entry.strip) := by
  unfold Mcs.request
  split
  next f hf =>
    have hm : m.flight = some f := (Option.filter_eq_some_iff.1 hf).1
    split
    · simp [hm]
    · rfl
  next =>
    repeat' split
    all_goals rfl

/-- A request keeps the order of the queue and the strips and stamps apart (R47, R48). -/
theorem Mcs.sound.request {m : Mcs} (h : m.sound) (i : Strip) (o : Origin) : (m.request i o).sound := by
  unfold Mcs.request
  split
  next f hf =>
    obtain ⟨hm, hi⟩ : m.flight = some f ∧ f.entry.strip = i := by simpa [Mcs.inFlight, Option.filter_eq_some_iff] using hf
    split
    · obtain ⟨hent, hord⟩ := h
      have hcons := hent.perm (Mcs.entries_of_some hm)
      refine ⟨?_, hord⟩
      refine EntriesSound.perm (Mcs.entries_of_some rfl).symm ?_
      refine (hcons.sublist (List.sublist_cons_self _ _)).cons_fresh (fun x hx hxf => ?_) rfl
      exact (List.nodup_cons.1 hcons.1).1 (List.mem_map.2 ⟨x, hx, hxf⟩)
    · exact h
  next hf =>
    have hne : ∀ f, m.flight = some f → f.entry.strip ≠ i := by
      intro f hm hi
      simp [Mcs.inFlight, hm, hi] at hf
    split
    next e he =>
      have hei : e.strip = i := by simpa using List.find?_some he
      split
      · exact h.enter (e := { e with origin := o, stamp := m.stamps }) (by simpa only [hei] using hne) (List.filter_sublist) (by simp [hei]) rfl
      · exact h
    next he =>
      exact h.enter (e := ⟨i, o, 0, m.stamps⟩) hne (.refl _) (by simpa [Mcs.queued] using he) rfl

end Sys2Proof.Machine

namespace Sys2Proof.Machine

/-! ### Sound moves: what keeps the tests, the channels, the health records and the buffers consistent

`TestsCore` is what `StripsSound` says apart from the converter's work and the time before the load. A sound move keeps it and
the buffers, and leaves the converter's work, the previous outcome, the slot's end and the strip under test as they are. -/

/-- The entries are in order, a strip is UNDER_TEST exactly while its test is in flight, its lane has no pulse in progress, and
every channel and health record is consistent (R16, R47, R53, R163). -/
structure TestsCore (s : State) : Prop where
  mcs : s.mcs.sound
  conn : ∀ i : Strip, s.scu[i].conn = .underTest ↔ s.mcs.flight.map (·.entry.strip) = some i
  quiet : ∀ f ∈ s.mcs.flight, ∀ i : Strip, laneOf i = laneOf f.entry.strip → s.scu[i].pulse = none
  scu : ∀ i : Strip, s.scu[i].sound
  shu : ∀ i : Strip, s.shu[i].sound

theorem stripsSound_iff (s : State) : StripsSound s ↔
    TestsCore s ∧ (s.mcs.flight.isSome = true ↔ s.mcs.work = .charge ∨ s.mcs.work = .read) ∧
    (s.loaded = false → s.mcs.flight = none ∧ s.mcs.slotDue = none ∧ s.mcs.prev ≠ .charged) := by
  constructor
  · rintro ⟨⟨h1, h2, h3, h4, h5, h6, h7, h8⟩, hscu, hshu⟩
    exact ⟨⟨⟨⟨h1, h2, h3⟩, h4⟩, h5, h7, hscu, hshu⟩, h6, h8⟩
  · rintro ⟨⟨⟨⟨h1, h2, h3⟩, h4⟩, h5, h7, hscu, hshu⟩, h6, h8⟩
    exact ⟨⟨h1, h2, h3, h4, h5, h6, h7, h8⟩, hscu, hshu⟩

structure SoundMove (s t : State) : Prop where
  core : TestsCore s → TestsCore t
  buffers : BuffersSound s → BuffersSound t
  loaded : t.loaded = s.loaded
  work : t.mcs.work = s.mcs.work
  prev : t.mcs.prev = s.mcs.prev
  slotDue : t.mcs.slotDue = s.mcs.slotDue
  flight : t.mcs.flight.map (·.entry.strip) = s.mcs.flight.map (·.entry.strip)

theorem SoundMove.refl (s : State) : SoundMove s s := ⟨id, id, rfl, rfl, rfl, rfl, rfl⟩

theorem SoundMove.trans {s t u : State} (h : SoundMove s t) (k : SoundMove t u) : SoundMove s u :=
  ⟨k.core ∘ h.core, k.buffers ∘ h.buffers, k.loaded.trans h.loaded, k.work.trans h.work, k.prev.trans h.prev,
    k.slotDue.trans h.slotDue, k.flight.trans h.flight⟩

theorem isSome_of_map_eq {α β : Type} {a b : Option α} {f : α → β} (h : a.map f = b.map f) : a.isSome = b.isSome := by
  simpa using congrArg Option.isSome h

theorem SoundMove.strips {s t : State} (h : SoundMove s t) (hs : StripsSound s) : StripsSound t := by
  rw [stripsSound_iff] at hs ⊢
  obtain ⟨hcore, hwork, hload⟩ := hs
  have hsome := isSome_of_map_eq h.flight
  refine ⟨h.core hcore, by rw [hsome, h.work]; exact hwork, fun hl => ?_⟩
  obtain ⟨hf, hd, hp⟩ := hload (h.loaded.symm.trans hl)
  refine ⟨?_, h.slotDue.trans hd, by rw [h.prev]; exact hp⟩
  rw [← Option.not_isSome_iff_eq_none, hsome, hf]
  decide

/-- A strip in transit is a strip in use: the gate lets no other pass, and a strip that leaves service is purged (R18, R67). -/
theorem BuffersSound.delivers {s : State} (h : BuffersSound s) {r : PulseRecord} (hr : r ∈ s.apu.transit) :
    s.shu[r.strip].state.delivers = true := by
  cases hd : s.shu[r.strip].state.delivers with
  | true => rfl
  | false => exact absurd rfl ((h.2.2 r.strip hd).2.1 r hr)

section
variable {s t : State}

/-- Changes outside the blocks that these conditions speak of. -/
theorem SoundMove.of_blocks (hscu : t.scu = s.scu) (hshu : t.shu = s.shu) (hapu : t.apu = s.apu) (hload : t.loaded = s.loaded)
    (hmcs : t.mcs = { s.mcs with
      frame := t.mcs.frame, pendingFrame := t.mcs.pendingFrame, pos := t.mcs.pos, pointer := t.mcs.pointer, strip := t.mcs.strip }) :
    SoundMove s t := by
  refine ⟨fun h => ⟨?_, ?_, ?_, ?_, ?_⟩, fun h => ?_, hload, by rw [hmcs], by rw [hmcs], by rw [hmcs], by rw [hmcs]⟩
  · rw [hmcs]; exact h.mcs
  · rw [hmcs, hscu]; exact h.conn
  · rw [hmcs, hscu]; exact h.quiet
  · rw [hscu]; exact h.scu
  · rw [hshu]; exact h.shu
  · simpa only [BuffersSound, hapu, hshu, hscu] using h

theorem SameSite.soundMove (h : SameSite s t) : SoundMove s t :=
  .of_blocks h.scu h.shu h.apu h.loaded (by rw [h.mcs])

end

/-! ### Moves of one channel and of one health record -/

/-- A channel keeps its counts, its connection as to a test, and opens no pulse. -/
structure ChannelMove (u v : Scu) : Prop where
  sound : u.sound → v.sound
  conn : v.conn = .underTest ↔ u.conn = .underTest
  pulse : u.pulse = none → v.pulse = none
  discard : (∀ p ∈ u.pulse, p.discard = true) → ∀ p ∈ v.pulse, p.discard = true

theorem State.updScu_soundMove (s : State) (i : Strip) (f : Scu → Scu) (hf : ChannelMove s.scu[i] (f s.scu[i])) :
    SoundMove s (s.updScu i f) := by
  refine ⟨fun h => ⟨h.mcs, fun j => ?_, fun g hg j hj => ?_, fun j => ?_, h.shu⟩,
    fun h => ⟨h.1, h.2.1, fun j hd => ⟨(h.2.2 j hd).1, (h.2.2 j hd).2.1, ?_⟩⟩, rfl, rfl, rfl, rfl, rfl⟩
  all_goals simp only [State.updScu_scu, upd_get]; split
  next e => subst e; exact hf.conn.trans (h.conn i)
  next => exact h.conn j
  next e => subst e; exact hf.pulse (h.quiet g hg i hj)
  next => exact h.quiet g hg j hj
  next e => subst e; exact hf.sound (h.scu i)
  next => exact h.scu j
  next e => subst e; exact hf.discard (h.2.2 i hd).2.2
  next => exact (h.2.2 j hd).2.2

/-- A change of baseline, pinned state, timers and noise marks. -/
theorem ChannelMove.of_same {u v : Scu} (h : v = { u with
    base := v.base, azDue := v.azDue, pinned := v.pinned, pinDue := v.pinDue, noiseDue := v.noiseDue
    noisyLive := v.noisyLive, noisyLatched := v.noisyLatched, lastEnd := v.lastEnd }) : ChannelMove u v := by
  rw [h]
  exact ⟨id, .rfl, id, id⟩

/-- A health record keeps its counts and its cause set in step with its state, and its strip does not leave service. -/
structure HealthMove (h k : Health) : Prop where
  sound : h.sound → k.sound
  delivers : h.state.delivers = true → k.state.delivers = true

theorem State.updShu_soundMove (s : State) (i : Strip) (f : Health → Health) (hf : HealthMove s.shu[i] (f s.shu[i])) :
    SoundMove s (s.updShu i f) := by
  refine ⟨fun h => ⟨h.mcs, h.conn, h.quiet, h.scu, fun j => ?_⟩, fun h => ⟨h.1, h.2.1, fun j hd => h.2.2 j ?_⟩, rfl, rfl, rfl,
    rfl, rfl⟩
  · simp only [State.updShu_shu, upd_get]
    split
    next e => subst e; exact hf.sound (h.shu i)
    next => exact h.shu j
  · simp only [State.updShu_shu, upd_get] at hd
    split at hd
    next e =>
      subst e
      exact Bool.eq_false_iff.2 fun hc => by rw [hf.delivers hc] at hd; cases hd
    next => exact hd

theorem State.request_soundMove (s : State) (i : Strip) (o : Origin) : SoundMove s (s.request i o) := by
  have hflight := s.mcs.request_flight i o
  obtain ⟨-, -, -, hdue, hwork, hprev, -, -⟩ := s.mcs.request_frame i o
  refine ⟨fun h => ⟨h.mcs.request i o, fun j => ?_, fun g hg j hj => ?_, h.scu, h.shu⟩, id, rfl, hwork, hprev, hdue, hflight⟩
  · exact (h.conn j).trans (by rw [State.request_mcs, hflight])
  · obtain ⟨f, hf, hfg⟩ : ∃ f, s.mcs.flight = some f ∧ f.entry.strip = g.entry.strip := by
      have : (s.mcs.request i o).flight.map (·.entry.strip) = some g.entry.strip := congrArg _ hg
      rw [hflight] at this
      simpa using this
    exact h.quiet f hf j (by rw [hfg]; exact hj)

end Sys2Proof.Machine

namespace Sys2Proof.Machine

/-! ### Strip health, operation by operation (R163 to R170) -/

theorem State.updShu_updShu (s : State) (i : Strip) (f g : Health → Health) :
    (s.updShu i f).updShu i g = s.updShu i fun h => g (f h) := by
  simp only [State.updShu, upd_upd]

theorem upd_same {α : Type} {n : Nat} (v : Vector α n) (i : Fin n) (f : α → α) : (upd v i f)[i] = f v[i] := by
  rw [upd_get, if_pos rfl]

section
variable {s : State} {i : Strip} {f : Causes → Causes}

/-- Evidence takes a strip into SUSPECT (R164). -/
theorem State.evidence_toSuspect (hst : s.shu[i].state = .inService) (hf : f s.shu[i].causes ≠ s.shu[i].causes)
    (hc : (f s.shu[i].causes).any = true) :
    s.evidence i f = (s.updShu i fun h => Health.enter { h with causes := f h.causes } .suspect).request i .suspect := by
  rw [State.evidence_changes (by simp only [hst, hf, or_false]; decide), State.reevaluate_toSuspect, State.updShu_updShu]
  · simp only [State.updShu_shu, upd_same, hst]
  · simp only [State.updShu_shu, upd_same, hc]

/-- Evidence takes a strip back into IN_SERVICE (R164). -/
theorem State.evidence_toService (hst : s.shu[i].state = .suspect) (hf : f s.shu[i].causes ≠ s.shu[i].causes)
    (hc : (f s.shu[i].causes).any = false) :
    s.evidence i f = s.updShu i fun h => Health.enter { h with causes := f h.causes } .inService := by
  rw [State.evidence_changes (by simp only [hst, hf, or_false]; decide), State.reevaluate_toService, State.updShu_updShu]
  · simp only [State.updShu_shu, upd_same, hst]
  · simp only [State.updShu_shu, upd_same, hc]

/-- Evidence changes the cause set alone (R163, R164). -/
theorem State.evidence_noted (hst : s.shu[i].state ≠ .disabled) (hf : f s.shu[i].causes ≠ s.shu[i].causes)
    (h₁ : s.shu[i].state = .inService → (f s.shu[i].causes).any = false)
    (h₂ : s.shu[i].state = .suspect → (f s.shu[i].causes).any = true) :
    s.evidence i f = s.updShu i fun h => { h with causes := f h.causes } := by
  rw [State.evidence_changes (by simp only [hst, hf, or_self]; exact id), State.reevaluate_stays]
  · simpa only [State.updShu_shu, upd_same] using h₁
  · simpa only [State.updShu_shu, upd_same] using h₂

/-- All that evidence can do. -/
theorem State.evidence_cases (s : State) (i : Strip) (f : Causes → Causes) :
    s.evidence i f = s ∨
    (s.shu[i].state = .inService ∧ (f s.shu[i].causes).any = true ∧
      s.evidence i f = (s.updShu i fun h => Health.enter { h with causes := f h.causes } .suspect).request i .suspect) ∨
    (s.shu[i].state = .suspect ∧ (f s.shu[i].causes).any = false ∧
      s.evidence i f = s.updShu i fun h => Health.enter { h with causes := f h.causes } .inService) ∨
    (s.shu[i].state ≠ .disabled ∧ (s.shu[i].state = .inService → (f s.shu[i].causes).any = false) ∧
      (s.shu[i].state = .suspect → (f s.shu[i].causes).any = true) ∧
      s.evidence i f = s.updShu i fun h => { h with causes := f h.causes }) := by
  by_cases hst : s.shu[i].state = .disabled
  · exact .inl (State.evidence_void (.inl hst))
  by_cases hf : f s.shu[i].causes = s.shu[i].causes
  · exact .inl (State.evidence_void (.inr hf))
  by_cases h₁ : s.shu[i].state = .inService ∧ (f s.shu[i].causes).any = true
  · exact .inr (.inl ⟨h₁.1, h₁.2, State.evidence_toSuspect h₁.1 hf h₁.2⟩)
  by_cases h₂ : s.shu[i].state = .suspect ∧ (f s.shu[i].causes).any = false
  · exact .inr (.inr (.inl ⟨h₂.1, h₂.2, State.evidence_toService h₂.1 hf h₂.2⟩))
  · have k₁ : s.shu[i].state = .inService → (f s.shu[i].causes).any = false := by simpa using h₁
    have k₂ : s.shu[i].state = .suspect → (f s.shu[i].causes).any = true := by simpa using h₂
    exact .inr (.inr (.inr ⟨hst, k₁, k₂, State.evidence_noted hst hf k₁ k₂⟩))

end

/-- A pulse in progress is marked for discard (R18). -/
def Scu.marked (u : Scu) : Scu := { u with pulse := u.pulse.map fun p => { p with discard := true } }

/-- A strip leaves service: its health record and its channel change, and the APU purges it (R67, R170, R176). -/
def State.leave (s : State) (i : Strip) (f : Health → Health) (g : Scu → Scu) : State :=
  { (s.updShu i f).updScu i g with apu := s.apu.purge i }

theorem State.takeOut_eq (s : State) (i : Strip) :
    s.takeOut i = s.leave i (fun h => { h.enter .outOfService with failCount := 0 }) Scu.marked := rfl

/-- The health record of a strip that its evidence takes out of service (R170). -/
def Health.failed (due : Time) (h : Health) : Health :=
  { h.enter .outOfService with failCount := 0, holdoffDue := some due }

/-- The end of a holdoff timer that starts now (R172). -/
def State.holdoffEnd (s : State) : Time := after s.siteTime (s.par.holdoff * 960000)

theorem State.failOut_updShu (s : State) (i : Strip) (f : Health → Health) :
    (s.updShu i f).failOut i = s.leave i (fun h => (f h).failed s.holdoffEnd) Scu.marked := by
  simp only [State.failOut, State.takeOut, State.leave, State.updShu, State.updScu, upd_upd]
  rfl

/-- A miss is counted, in both counts (R165). -/
def Health.counted (h : Health) : Health := { h with missCount := min (h.missCount + 1) 255, misses := bump h.misses }

/-- The miss count after another miss (R165). -/
def Health.nextMiss (h : Health) : Nat := min (h.missCount + 1) 255

section
variable {s : State} {i : Strip}

theorem State.miss_eq (hd : s.shu[i].state.delivers = true) : s.miss i =
    let causes := { s.shu[i].causes with miss := s.shu[i].causes.miss || s.par.missLim ≤ s.shu[i].nextMiss }
    let s1 := s.updShu i fun h => { h with missCount := s.shu[i].nextMiss, misses := bump h.misses, causes := causes }
    if s.shu[i].state = .recovering then s1
    else if 4 * s.par.missLim ≤ s.shu[i].nextMiss then s1.failOut i
    else if causes = s.shu[i].causes then s1
    else s1.reevaluate i := by
  simp only [State.miss, hd, if_true]
  rfl

theorem upd_congr {α : Type} {n : Nat} (v : Vector α n) (i : Fin n) {f g : α → α} (h : f v[i] = g v[i]) :
    upd v i f = upd v i g := by simp only [upd, h]

theorem State.updShu_congr {f g : Health → Health} (h : f s.shu[i] = g s.shu[i]) : s.updShu i f = s.updShu i g := by
  simp only [State.updShu, upd_congr s.shu i h]

/-- A miss of a RECOVERING strip is counted and may set MISS (R165). -/
theorem State.miss_recovering (hst : s.shu[i].state = .recovering) : s.miss i = s.updShu i fun h =>
    { h.counted with causes := { h.causes with miss := h.causes.miss || s.par.missLim ≤ h.nextMiss } } := by
  rw [State.miss_eq (by rw [hst]; rfl), if_pos hst]
  exact State.updShu_congr rfl

/-- A miss below MISS_LIM is counted (R165). -/
theorem State.miss_below (hd : s.shu[i].state.delivers = true) (hst : s.shu[i].state ≠ .recovering)
    (hlim : s.shu[i].nextMiss < s.par.missLim) (hfour : s.shu[i].nextMiss < 4 * s.par.missLim) :
    s.miss i = s.updShu i Health.counted := by
  have hc : { s.shu[i].causes with miss := s.shu[i].causes.miss || s.par.missLim ≤ s.shu[i].nextMiss } = s.shu[i].causes := by
    simp only [decide_eq_false (Nat.not_le.2 hlim), Bool.or_false]
  rw [State.miss_eq hd, if_neg hst, if_neg (Nat.not_le.2 hfour), if_pos hc]
  exact State.updShu_congr (congrArg (fun c => { s.shu[i].counted with causes := c }) hc)

/-- A miss from MISS_LIM on sets MISS (R165). -/
theorem State.miss_reaches (hd : s.shu[i].state.delivers = true) (hst : s.shu[i].state ≠ .recovering)
    (hlim : s.par.missLim ≤ s.shu[i].nextMiss) (hfour : s.shu[i].nextMiss < 4 * s.par.missLim) :
    s.miss i = (s.updShu i Health.counted).evidence i fun c => { c with miss := true } := by
  have hdis : s.shu[i].state ≠ .disabled := by intro h; rw [h] at hd; cases hd
  have hget : (s.updShu i Health.counted).shu[i] = s.shu[i].counted := upd_same _ _ _
  rw [State.miss_eq hd, if_neg hst, if_neg (Nat.not_le.2 hfour)]
  simp only [decide_eq_true hlim, Bool.or_true]
  split
  next hc =>
    rw [State.evidence_void (.inr (by rw [hget]; exact hc))]
    refine State.updShu_congr ?_
    simp only [hc, Health.counted, Health.nextMiss]
  next hc =>
    rw [State.evidence_changes (by rw [hget]; exact not_or.2 ⟨hdis, hc⟩), State.updShu_updShu]
    exact congrArg (fun t : State => t.reevaluate i) (State.updShu_congr rfl)

/-- A miss from 4 × MISS_LIM on takes the strip out of service (R165, R170). -/
theorem State.miss_fails (hd : s.shu[i].state.delivers = true) (hst : s.shu[i].state ≠ .recovering)
    (hfour : 4 * s.par.missLim ≤ s.shu[i].nextMiss) : s.miss i =
    s.leave i (fun h => Health.failed s.holdoffEnd { h.counted with causes := { h.causes with miss := true } }) Scu.marked := by
  have hlim : s.par.missLim ≤ s.shu[i].nextMiss := by omega
  rw [State.miss_eq hd, if_neg hst, if_pos hfour]
  simp only [decide_eq_true hlim, Bool.or_true]
  rw [State.updShu_congr (g := fun h => { h.counted with causes := { h.causes with miss := true } }) rfl, State.failOut_updShu]

/-- A miss of a strip that does not deliver (R165). -/
theorem State.miss_idle (hd : s.shu[i].state.delivers = false) : s.miss i = s := by
  simp only [State.miss, hd, Bool.false_eq_true, if_false]

end

end Sys2Proof.Machine

namespace Sys2Proof.Machine

/-! ### Sound moves of strip health -/

theorem State.evidence_soundMove (s : State) (i : Strip) (f : Causes → Causes) : SoundMove s (s.evidence i f) := by
  obtain e | ⟨hst, hc, e⟩ | ⟨hst, hc, e⟩ | ⟨hst, h₁, h₂, e⟩ := s.evidence_cases i f
  · rw [e]; exact .refl s
  · rw [e]
    refine (s.updShu_soundMove i _ ⟨?_, fun _ => rfl⟩).trans (State.request_soundMove _ i _)
    rintro ⟨hm, hf, hn, -, -, -, hh⟩
    exact ⟨hm, hf, hn, nofun, fun _ => hc, nofun, fun h => absurd (hh h) (by rw [hst]; decide)⟩
  · rw [e]
    refine s.updShu_soundMove i _ ⟨?_, fun _ => rfl⟩
    rintro ⟨hm, hf, hn, -, -, -, hh⟩
    exact ⟨hm, hf, hn, fun _ => hc, nofun, nofun, fun h => absurd (hh h) (by rw [hst]; decide)⟩
  · rw [e]
    refine s.updShu_soundMove i _ ⟨?_, id⟩
    rintro ⟨hm, hf, hn, -, -, -, hh⟩
    exact ⟨hm, hf, hn, h₁, h₂, fun h => absurd h hst, hh⟩

/-- Evidence takes no strip out of service. -/
theorem State.evidence_delivers (s : State) (i j : Strip) (f : Causes → Causes) (hd : s.shu[j].state.delivers = true) :
    (s.evidence i f).shu[j].state.delivers = true := by
  obtain e | ⟨-, -, e⟩ | ⟨-, -, e⟩ | ⟨-, -, -, e⟩ := s.evidence_cases i f
  all_goals rw [e]
  · exact hd
  all_goals
    simp only [State.request_shu, State.updShu_shu, upd_get]
    split
  · rfl
  · exact hd
  · rfl
  · exact hd
  · exact hd
  · exact hd

theorem TestsCore.updShu {s : State} (h : TestsCore s) (i : Strip) {f : Health → Health}
    (hf : s.shu[i].sound → (f s.shu[i]).sound) : TestsCore (s.updShu i f) := by
  refine ⟨h.mcs, h.conn, h.quiet, h.scu, fun j => ?_⟩
  simp only [State.updShu_shu, upd_get]
  split
  next e => subst e; exact hf (h.shu i)
  next => exact h.shu j

/-- A strip that leaves service is purged, and a pulse of it that is still in progress is marked (R18, R67). -/
theorem State.leave_soundMove (s : State) (i : Strip) (f : Health → Health) (g : Scu → Scu)
    (hf : s.shu[i].sound → (f s.shu[i]).sound) (hg : ChannelMove s.scu[i] (g s.scu[i]))
    (hp : ∀ p ∈ (g s.scu[i]).pulse, p.discard = true) : SoundMove s (s.leave i f g) := by
  have core (h : TestsCore s) : TestsCore (s.leave i f g) := by
    obtain ⟨h1, h2, h3, h4, h5⟩ := ((s.updShu i f).updScu_soundMove i g hg).core (h.updShu i hf)
    exact ⟨h1, h2, h3, h4, h5⟩
  refine ⟨core, fun h => ⟨fun j => ?_, h.2.1, fun j hj => ⟨?_, ?_, ?_⟩⟩, rfl, rfl, rfl, rfl, rfl⟩
  · show (upd s.apu.side i fun _ => [])[j].length ≤ 4 ∧ ∀ w ∈ (upd s.apu.side i fun _ => [])[j], w.pulse.strip = j
    rw [upd_get]
    split
    · exact ⟨by simp, by simp⟩
    · exact h.1 j
  all_goals
    replace hj : (upd s.shu i f)[j].state.delivers = false := hj
    rw [upd_get] at hj
  · show (upd s.apu.side i fun _ => [])[j] = []
    rw [upd_get]
    split at hj
    next e => rw [if_pos e]
    next e => rw [if_neg e]; exact (h.2.2 j hj).1
  · intro r hr
    obtain ⟨hr, hri⟩ : r ∈ s.apu.transit ∧ r.strip ≠ i := by simpa [State.leave, Apu.purge] using hr
    split at hj
    next e => exact e ▸ hri
    next => exact (h.2.2 j hj).2.1 r hr
  · show ∀ p ∈ (upd s.scu i g)[j].pulse, p.discard = true
    rw [upd_get]
    split at hj
    next e => subst e; rw [if_pos rfl]; exact hp
    next e => rw [if_neg e]; exact (h.2.2 j hj).2.2

theorem Scu.marked_channelMove (u : Scu) : ChannelMove u u.marked := by
  refine ⟨?_, .rfl, fun h => by simp [Scu.marked, h], fun _ p hp => ?_⟩
  · rintro ⟨hw, hi, hr, hn, hp, hst, hset, hconn, hcounts⟩
    refine ⟨hw, hi, hr, hn, fun p h => ?_, hst, hset, fun h => ?_, hcounts⟩
    · obtain ⟨q, hq, rfl⟩ := Option.map_eq_some_iff.1 h
      exact hp q hq
    · exact ⟨by simp [Scu.marked, (hconn h).1], (hconn h).2⟩
  · obtain ⟨q, hq, rfl⟩ := Option.map_eq_some_iff.1 hp
    rfl

theorem Scu.marked_discard (u : Scu) : ∀ p ∈ u.marked.pulse, p.discard = true := by
  intro p hp
  obtain ⟨q, hq, rfl⟩ := Option.map_eq_some_iff.1 hp
  rfl

theorem Health.failed_sound {h : Health} {due : Time} (hm : h.missCount ≤ 255) (hn : h.misses ≤ 65535) :
    (h.failed due).sound :=
  ⟨hm, Nat.zero_le 1, hn, nofun, nofun, nofun, fun _ => rfl⟩

theorem State.takeOut_soundMove (s : State) (i : Strip) : SoundMove s (s.takeOut i) := by
  rw [State.takeOut_eq]
  refine s.leave_soundMove i _ _ ?_ (Scu.marked_channelMove _) (Scu.marked_discard _)
  rintro ⟨hm, -, hn, -, -, -, -⟩
  exact ⟨hm, Nat.zero_le 1, hn, nofun, nofun, nofun, fun _ => rfl⟩

/-- A strip fails after a change of its health record that keeps its counts (R170). -/
theorem State.fails_soundMove (s : State) (i : Strip) (f : Health → Health) (due : Time)
    (hf : s.shu[i].sound → (f s.shu[i]).missCount ≤ 255 ∧ (f s.shu[i]).misses ≤ 65535) :
    SoundMove s (s.leave i (fun h => (f h).failed due) Scu.marked) :=
  s.leave_soundMove i _ _ (fun h => Health.failed_sound (hf h).1 (hf h).2) (Scu.marked_channelMove _) (Scu.marked_discard _)

theorem Health.counted_bounds (h : Health) : h.counted.missCount ≤ 255 ∧ h.counted.misses ≤ 65535 := by
  have := bump_le h.misses
  simp only [Health.counted]
  omega

theorem Health.counted_move (h : Health) : HealthMove h h.counted := by
  refine ⟨?_, id⟩
  rintro ⟨-, hf, -, hrest⟩
  exact ⟨h.counted_bounds.1, hf, h.counted_bounds.2, hrest⟩

theorem State.miss_soundMove (s : State) (i : Strip) : SoundMove s (s.miss i) := by
  cases hd : s.shu[i].state.delivers with
  | false => rw [State.miss_idle hd]; exact .refl s
  | true =>
    by_cases hst : s.shu[i].state = .recovering
    · rw [State.miss_recovering hst]
      refine s.updShu_soundMove i _ ⟨?_, id⟩
      rintro ⟨-, hf, -, -, -, -, hh⟩
      have hb := s.shu[i].counted_bounds
      refine ⟨hb.1, hf, hb.2, fun h => ?_, fun h => ?_, fun h => ?_, hh⟩
      all_goals exact absurd (hst.symm.trans h) (by decide)
    by_cases hfour : 4 * s.par.missLim ≤ s.shu[i].nextMiss
    · rw [State.miss_fails hd hst hfour]
      exact s.fails_soundMove i _ _ fun _ => s.shu[i].counted_bounds
    have hfour := Nat.lt_of_not_le hfour
    by_cases hlim : s.par.missLim ≤ s.shu[i].nextMiss
    · rw [State.miss_reaches hd hst hlim hfour]
      exact (s.updShu_soundMove i _ (Health.counted_move _)).trans (State.evidence_soundMove _ i _)
    · rw [State.miss_below hd hst (Nat.lt_of_not_le hlim) hfour]
      exact s.updShu_soundMove i _ (Health.counted_move _)

theorem State.contribution_soundMove (s : State) (i : Strip) : SoundMove s (s.contribution i) := by
  unfold State.contribution
  split
  · refine (s.updShu_soundMove i _ ⟨?_, id⟩).trans (State.evidence_soundMove _ i _)
    rintro ⟨-, h⟩
    exact ⟨Nat.zero_le 255, h⟩
  · exact .refl s

theorem State.testResult_soundMove (s : State) (i : Strip) (pass : Bool) : SoundMove s (s.testResult i pass) := by
  obtain ⟨-, e⟩ | ⟨-, n, hn, b, e⟩ | ⟨-, e⟩ | ⟨hst, e⟩ | ⟨hst, b, e⟩ := s.testResult_cases i pass
  all_goals rw [e]
  · exact .refl s
  · refine (s.updShu_soundMove i _ ⟨?_, id⟩).trans (State.evidence_soundMove _ i _)
    rintro ⟨hm, -, hrest⟩
    exact ⟨hm, hn, hrest⟩
  · rw [State.failOut_updShu]
    exact s.fails_soundMove i _ _ fun h => ⟨h.1, h.2.2.1⟩
  · refine s.updShu_soundMove i _ ⟨?_, fun _ => rfl⟩
    rintro ⟨-, -, hn, -, -, -, hh⟩
    exact ⟨Nat.zero_le 255, Nat.zero_le 1, hn, fun _ => rfl, nofun, nofun, fun h => absurd (hh h) (by rw [hst]; decide)⟩
  · refine s.updShu_soundMove i _ ⟨?_, id⟩
    rintro ⟨hm, hf, hn, -, -, -, hh⟩
    refine ⟨hm, hf, hn, fun h => ?_, fun h => ?_, fun h => ?_, hh⟩
    all_goals exact absurd (hst.symm.trans h) (by decide)

/-! ### Sound moves of the channels' timers and windows -/

theorem State.clearPinned_soundMove (s : State) (i : Strip) : SoundMove s (s.clearPinned i) :=
  (s.updScu_soundMove i _ (.of_same rfl)).trans (State.evidence_soundMove _ i _)

theorem State.windowChange_soundMove (s : State) (i : Strip) : SoundMove s (s.windowChange i) :=
  (s.updScu_soundMove i _ (.of_same rfl)).trans (State.clearPinned_soundMove _ i)

theorem State.autoZero_soundMove (s : State) (i : Strip) : SoundMove s (s.autoZero i) := by
  rw [State.autoZero_eq]
  repeat' split
  · exact .refl s
  · exact (s.updScu_soundMove i _ (.of_same rfl)).trans (State.clearPinned_soundMove _ i)
  · exact s.updScu_soundMove i _ (.of_same rfl)
  · exact .refl s
  · exact s.updScu_soundMove i _ (.of_same rfl)

theorem autoZeroStep_soundMove {i : Strip} {s t : State} (h : execAutoZeroStep i s = .next t) : SoundMove s t := by
  cases h
  split
  · have h := s.updScu_soundMove i (fun u => { u with azDue := some (after s.siteTime (s.par.azStep * 160)) }) (.of_same rfl)
    simp only
    split
    · exact h.trans (State.autoZero_soundMove _ i)
    · exact h
  · exact .refl s

theorem pinnedTimer_soundMove {i : Strip} {s t : State} (h : execPinnedTimerExpiry i s = .next t) : SoundMove s t := by
  cases h
  split
  · exact (s.updScu_soundMove i _ (.of_same rfl)).trans (State.evidence_soundMove _ i _)
  · exact .refl s

/-- The end of a standing load: no pulse starts, and the idle wait starts afresh (R3, R12, R13). -/
theorem Scu.standingOver_move (u : Scu) (b : Int) :
    ChannelMove u { u with base := b, standing := none, idleWait := 0 } := by
  refine ⟨?_, .rfl, id, id⟩
  rintro ⟨-, hi, hr, hn, hp, -, hset, hconn, hcounts⟩
  exact ⟨Nat.zero_le 1600, hi, hr, hn, fun p h => ⟨(hp p h).1, (hp p h).2.1, rfl⟩, nofun, hset, fun h => ⟨(hconn h).1, rfl⟩,
    hcounts⟩

theorem standingTimer_soundMove {i : Strip} {s t : State} (h : execStandingTimerExpiry i s = .next t) : SoundMove s t := by
  cases h
  split
  · exact ((s.updScu_soundMove i _ (Scu.standingOver_move _ _)).trans (State.clearPinned_soundMove _ i)).trans
      (State.evidence_soundMove _ i _)
  · exact .refl s

theorem noiseWindow_soundMove {i : Strip} {s t : State} (h : execNoiseWindowEnd i s = .next t) : SoundMove s t := by
  cases h
  split
  · refine (s.updScu_soundMove i _ ⟨?_, .rfl, id, id⟩).trans (State.evidence_soundMove _ i _)
    rintro ⟨hw, hi, hr, -, hrest⟩
    exact ⟨hw, hi, hr, Nat.zero_le 8000, hrest⟩
  · exact .refl s

theorem State.updTests_soundMove (s : State) (i : Strip) (f : StripTests → StripTests) : SoundMove s (s.updTests i f) :=
  .of_blocks rfl rfl rfl rfl rfl

theorem periodicTimer_soundMove {i : Strip} {s t : State} (h : execPeriodicTimerExpiry i s = .next t) : SoundMove s t := by
  cases h
  split
  · simp only
    split
    · exact (s.request_soundMove i _).trans (State.updTests_soundMove _ i _)
    · exact s.updTests_soundMove i _
  · exact .refl s

theorem holdoffExpiry_soundMove {i : Strip} {s t : State} (h : execHoldoffExpiry i s = .next t) : SoundMove s t := by
  cases h
  split
  · refine s.updShu_soundMove i _ ⟨?_, id⟩
    rintro ⟨hm, hf, hn, h4, h5, h6, -⟩
    exact ⟨hm, hf, hn, h4, h5, h6, nofun⟩
  · exact .refl s

/-! ### Sound moves of the axle pairing unit -/

theorem State.setSide_soundMove (s : State) (i : Strip) {w : List Waiting} (hw : w.Sublist s.apu.side[i]) :
    SoundMove s (s.setSide i w) := by
  refine ⟨fun h => ⟨h.mcs, h.conn, h.quiet, h.scu, h.shu⟩, fun h => ⟨fun j => ?_, h.2.1, fun j hj => ⟨?_, (h.2.2 j hj).2⟩⟩,
    rfl, rfl, rfl, rfl, rfl⟩
  all_goals simp only [State.setSide, upd_get]; split
  next e => subst e; exact ⟨hw.length_le.trans (h.1 i).1, fun x hx => (h.1 i).2 x (hw.subset hx)⟩
  next => exact h.1 j
  next e =>
    subst e
    have hnil := (h.2.2 i hj).1
    rw [hnil] at hw
    exact List.eq_nil_of_sublist_nil hw
  next => exact (h.2.2 j hj).1

theorem State.setQueue_soundMove (s : State) (n : Lane) {q : List QueueEntry}
    (hq : ∀ e ∈ q, e ∈ s.apu.queue[n] ∨ (e.hit.lane = n ∧ e.hit.row = .up))
    (hlen : s.apu.queue[n].length ≤ 4 → q.length ≤ 4) : SoundMove s (s.setQueue n q) := by
  refine ⟨fun h => ⟨h.mcs, h.conn, h.quiet, h.scu, h.shu⟩, fun h => ⟨h.1, fun m => ?_, h.2.2⟩, rfl, rfl, rfl, rfl, rfl⟩
  simp only [State.setQueue, upd_get]
  split
  next e =>
    subst e
    refine ⟨hlen (h.2.1 n).1, fun x hx => ?_⟩
    obtain hx | hx := hq x hx
    · exact (h.2.1 n).2 x hx
    · exact hx
  next => exact h.2.1 m

theorem State.transit_soundMove (s : State) {l : List PulseRecord} (hl : l.Sublist s.apu.transit) :
    SoundMove s { s with apu := { s.apu with transit := l } } :=
  ⟨fun h => ⟨h.mcs, h.conn, h.quiet, h.scu, h.shu⟩,
    fun h => ⟨h.1, h.2.1, fun j hj => ⟨(h.2.2 j hj).1, fun r hr => (h.2.2 j hj).2.1 r (hl.subset hr), (h.2.2 j hj).2.2⟩⟩,
    rfl, rfl, rfl, rfl, rfl⟩

/-- A record leaves the transit for its side buffer: its strip is in use (R60, R61). -/
theorem State.sideTakes_soundMove (s : State) {l : List PulseRecord} {w : Waiting} {q : List Waiting}
    (hl : l.Sublist s.apu.transit) (hw : w.pulse ∈ s.apu.transit) (hq : q.Sublist (s.apu.side[w.pulse.strip] ++ [w]))
    (hlen : s.apu.side[w.pulse.strip].length ≤ 4 → q.length ≤ 4) :
    SoundMove s (({ s with apu := { s.apu with transit := l } } : State).setSide w.pulse.strip q) := by
  refine ⟨fun h => ⟨h.mcs, h.conn, h.quiet, h.scu, h.shu⟩, fun h => ⟨fun j => ?_, h.2.1, fun j hj => ⟨?_, ?_, (h.2.2 j hj).2.2⟩⟩,
    rfl, rfl, rfl, rfl, rfl⟩
  · simp only [State.setSide, upd_get]
    split
    next e =>
      subst e
      refine ⟨hlen (h.1 _).1, fun x hx => ?_⟩
      obtain hx | hx := List.mem_append.1 (hq.subset hx)
      · exact (h.1 _).2 x hx
      · rw [List.mem_singleton.1 hx]
    next => exact h.1 j
  · simp only [State.setSide, upd_get]
    split
    next e =>
      subst e
      have hdel := h.delivers hw
      replace hj : s.shu[w.pulse.strip].state.delivers = false := hj
      rw [hdel] at hj
      cases hj
    next => exact (h.2.2 j hj).1
  · exact fun r hr => (h.2.2 j hj).2.1 r (hl.subset hr)

theorem State.orphan_soundMove (s : State) (n : Lane) : SoundMove s (s.orphan n) :=
  ⟨fun h => ⟨h.mcs, h.conn, h.quiet, h.scu, h.shu⟩, id, rfl, rfl, rfl, rfl, rfl⟩

theorem SoundMove.keptByPairing (s₀ : State) : KeptByPairing (SoundMove s₀) where
  miss i h := h.trans (State.miss_soundMove _ i)
  contribution i h := h.trans (State.contribution_soundMove _ i)
  handOver c h := h.trans (State.handOver_sameSite _ c).soundMove
  orphan n h := h.trans (State.orphan_soundMove _ n)
  sideLoses i _ h hw := h.trans (State.setSide_soundMove _ i hw)
  queueMoves n _ h hq hlen := h.trans (State.setQueue_soundMove _ n hq hlen)
  transitLoses h hl := h.trans (State.transit_soundMove _ hl)
  sideTakes h hl hw hq hlen := h.trans (State.sideTakes_soundMove _ hl hw hq hlen)

end Sys2Proof.Machine

namespace Sys2Proof.Machine

/-! ### Sound moves of the host's commands and of the store -/

theorem foldl_soundMove {f : State → Strip → State} (hf : ∀ s i, SoundMove s (f s i)) (l : List Strip) (s : State) :
    SoundMove s (l.foldl f s) :=
  foldl_keeps (I := SoundMove s) (fun _ i h => h.trans (hf _ i)) l (.refl s)

theorem State.enable_soundMove (s : State) (i : Strip) (hst : s.shu[i].state = .disabled) : SoundMove s (s.enable i) := by
  refine (s.updShu_soundMove i _ ⟨?_, fun _ => rfl⟩).trans (State.updScu_soundMove _ i _ ⟨?_, .rfl, id, id⟩)
  · rintro ⟨-, hf, hn, -, -, -, hh⟩
    exact ⟨Nat.zero_le 255, hf, hn, fun _ => rfl, nofun, nofun, fun h => absurd (hh h) (by rw [hst]; decide)⟩
  · rintro ⟨-, hrest⟩
    exact ⟨Nat.zero_le 1600, hrest⟩

theorem State.disable_soundMove (s : State) (i : Strip) : SoundMove s (s.disable i) := by
  refine s.leave_soundMove i _ _ ?_ ⟨?_, .rfl, fun _ => rfl, nofun⟩ nofun
  · rintro ⟨-, -, hn, -, -, -, -⟩
    exact ⟨Nat.zero_le 255, Nat.zero_le 1, hn, nofun, nofun, fun _ => rfl, nofun⟩
  · rintro ⟨hw, -, -, -, -, -, hset, -, hcounts⟩
    exact ⟨hw, Nat.zero_le 64, Nat.zero_le 64, Nat.zero_le 8000, nofun, nofun, hset, fun _ => ⟨rfl, rfl⟩, hcounts⟩

theorem paramApplier_soundMove (p : Param) (k : Nat) (v : Int) {s t : State} (h : paramApplier p k v s = some t) :
    SoundMove s t := by
  by_cases ha : p = .azl
  · subst ha
    simp only [paramApplier, applyAzl] at h
    split at h
    · rw [← Option.some.inj h]; exact .refl s
    · rw [← Option.some.inj h]
      exact SoundMove.trans (t := s.updPar fun p => { p with azl := clampNat 0 4095 v }) (.of_blocks rfl rfl rfl rfl rfl)
        (foldl_soundMove State.windowChange_soundMove _ _)
  by_cases he : p = .enable
  · subst he
    simp only [paramApplier, applyEnable] at h
    split at h
    next => cases h; exact .refl s
    next hne =>
      split at h
      next hon =>
        cases h
        exact s.enable_soundMove _ (by simpa [hon] using hne)
      next => cases h; exact s.disable_soundMove _
  · obtain ⟨hrest, -⟩ := paramApplier_frame ha he h
    rw [hrest]
    exact .of_blocks rfl rfl rfl rfl rfl

theorem storeCompletion_soundMove {bytes : List Byte} {s t : State} (h : execStoreCompletion bytes s = .next t) :
    SoundMove s t := by
  rw [← Host.Outcome.next.inj h]
  split
  · split
    · rw [State.storeSuccess_eq]
      refine SoundMove.trans (t := s.storeMoves bytes) ?_ (.of_blocks rfl rfl rfl rfl rfl)
      exact SoundMove.trans (t := s.updCst fun k => k.storedWith bytes) (.of_blocks rfl rfl rfl rfl rfl)
        (foldl_soundMove State.windowChange_soundMove _ _)
    · exact .of_blocks rfl rfl rfl rfl rfl
  · exact .refl s

theorem counterRead_soundMove (p : List Byte) (s : State) : SoundMove s (counterRead p s).2 := by
  unfold counterRead
  repeat' split
  · refine ((s.updScu_soundMove _ _ ⟨?_, .rfl, id, id⟩).trans (State.updTests_soundMove _ _ _)).trans
      (State.updShu_soundMove _ _ _ ⟨?_, id⟩)
    · rintro ⟨hw, hi, hr, hn, hp, hst, hset, hconn, -⟩
      exact ⟨hw, hi, hr, hn, hp, hst, hset, hconn, Nat.zero_le _, Nat.zero_le _, Nat.zero_le _, Nat.zero_le _⟩
    · rintro ⟨hm, hf, -, hrest⟩
      exact ⟨hm, hf, Nat.zero_le _, hrest⟩
  · exact ⟨fun h => ⟨h.mcs, h.conn, h.quiet, h.scu, h.shu⟩, id, rfl, rfl, rfl, rfl, rfl⟩
  · exact .refl s
  · exact .refl s

theorem stripRemove_soundMove (p : List Byte) (s : State) : SoundMove s (stripRemove p s).2 := by
  refine stripCommand_keeps (.refl s) fun i => ?_
  split
  · exact .refl s
  · exact .refl s
  · exact s.takeOut_soundMove i

theorem stripRestore_soundMove (p : List Byte) (s : State) : SoundMove s (stripRestore p s).2 := by
  refine stripCommand_keeps (.refl s) fun i => ?_
  split
  next => exact .refl s
  next hst =>
    split
    next => exact .refl s
    next hdue =>
      refine (s.updShu_soundMove i _ ⟨?_, fun _ => rfl⟩).trans (State.request_soundMove _ i _)
      rintro ⟨hm, hf, hn, -, -, -, -⟩
      exact ⟨hm, hf, hn, nofun, nofun, nofun, fun h => absurd h hdue⟩

theorem stripTest_soundMove (p : List Byte) (s : State) : SoundMove s (stripTest p s).2 := by
  refine stripCommand_keeps (.refl s) fun i => ?_
  split
  · exact s.request_soundMove i _
  · exact s.request_soundMove i _
  · exact .refl s

theorem stripStatus_soundMove (p : List Byte) (s : State) : SoundMove s (stripStatus p s).2 :=
  stripCommand_keeps (.refl s) fun i => (s.updShu_soundMove i _ ⟨id, id⟩).trans (State.updScu_soundMove _ i _ (.of_same rfl))

/-! ### Samples -/

theorem pushWindow_length (w : List Int) (x : Int) : (pushWindow w x).length ≤ 64 := by
  have hsize : Config.windowSize = 64 := rfl
  simp only [pushWindow, List.length_drop, List.length_append, List.length_singleton]
  omega

theorem PulseCtx.extend_discard (p : PulseCtx) (off : Nat) (now : Time) (d : Int) (clip : Bool) :
    (p.extend off now d clip).discard = p.discard := by
  unfold PulseCtx.extend
  split <;> rfl

theorem PulseCtx.extend_pend (p : PulseCtx) (off : Nat) (now : Time) (d : Int) (clip : Bool) :
    (p.extend off now d clip).pend.length ≤ p.pend.length + 1 := by
  unfold PulseCtx.extend
  split
  · exact Nat.zero_le _
  · simp [PulseCtx.hold]

theorem PulseCtx.ended_iff (p : PulseCtx) : p.ended = true ↔ p.pend.length = 4 := decide_eq_true_iff

theorem PulseCtx.cut_iff (p : PulseCtx) : p.cut = true ↔ p.pend.length ≠ 4 ∧ 4000 ≤ p.total := by
  simp [PulseCtx.cut, PulseCtx.ended, Config.longTotal]

/-- The delivery gate lets the record of a pulse pass that was not marked: its strip is in use (R18). -/
theorem SoundMove.deliver {s₀ s : State} (h : SoundMove s₀ s) {r : PulseRecord} {d : Bool}
    (hd : BuffersSound s₀ → d = false → s.shu[r.strip].state.delivers = true) : SoundMove s₀ (s.deliver r d) := by
  unfold State.deliver
  split
  next => exact h
  next hdis =>
    refine ⟨fun hc => ?_, fun hb => ?_, h.loaded, h.work, h.prev, h.slotDue, h.flight⟩
    · obtain ⟨h1, h2, h3, h4, h5⟩ := h.core hc
      exact ⟨h1, h2, h3, h4, h5⟩
    · have hdel := hd hb (by simpa using hdis)
      obtain ⟨h1, h2, h3⟩ := h.buffers hb
      refine ⟨h1, h2, fun j hj => ⟨(h3 j hj).1, fun q hq => ?_, (h3 j hj).2.2⟩⟩
      obtain hq | hq := List.mem_append.1 hq
      · exact (h3 j hj).2.1 q hq
      · rw [List.mem_singleton.1 hq]
        rintro rfl
        replace hj : s.shu[r.strip].state.delivers = false := hj
        rw [hdel] at hj
        cases hj

section
variable {s : State} {i : Strip} {p : PulseCtx}

/-- The end of a pulse: its context goes, and the strip may stand with an end run below 4 (R9, R11). -/
theorem Scu.endPulse_move {u : Scu} (hu : u.pulse = some p) (hconn : u.conn = .connected) (now : Time) (r : PulseRecord)
    (st : Option Standing) (hst : u.sound → ∀ x ∈ st, x.endRun ≤ 3) :
    ChannelMove u { u.endPulse now r with standing := st } := by
  refine ⟨fun hs => ?_, .rfl, fun h => absurd (hu.symm.trans h) nofun, nofun⟩
  obtain ⟨-, hi, hr, hn, -, -, hset, -, h1, h2, h3, h4⟩ := id hs
  refine ⟨Nat.zero_le 1600, hi, hr, hn, nofun, hst hs, hset, fun h => absurd hconn h, bump_le _, ?_, ?_, h4⟩
  · simp only [Scu.endPulse]
    split
    · exact bump_le _
    · exact h2
  · simp only [Scu.endPulse]
    split
    · exact bump_le _
    · exact h3

theorem BuffersSound.delivers_of_pulse (h : BuffersSound s) (hp : s.scu[i].pulse = some p) (hd : p.discard = false) :
    s.shu[i].state.delivers = true := by
  cases hdel : s.shu[i].state.delivers with
  | true => rfl
  | false =>
    have := (h.2.2 i hdel).2.2 p hp
    rw [hd] at this
    cases this

variable (hp : s.scu[i].pulse = some p) (hconn : s.scu[i].conn = .connected)
include hp hconn

theorem State.normalEnd_soundMove {q : PulseCtx} (hq : q.discard = p.discard) : SoundMove s (s.normalEnd i q) := by
  have hend := Scu.endPulse_move hp hconn s.siteTime (q.record i false) s.scu[i].standing fun hs => hs.2.2.2.2.2.1
  refine ((s.updScu_soundMove i (fun u => u.endPulse s.siteTime (q.record i false)) hend).trans
    (State.evidence_soundMove _ i _)).deliver fun hb hd => ?_
  exact State.evidence_delivers _ _ _ _ (hb.delivers_of_pulse hp (hq.symm.trans hd))

theorem State.longCut_soundMove {q : PulseCtx} (hrun : s.scu[i].sound → q.pend.length ≤ 3) (hq : q.discard = p.discard) :
    SoundMove s (s.longCut i q) := by
  refine (s.updScu_soundMove i _ (Scu.endPulse_move hp hconn s.siteTime _ _ fun hs x hx => ?_)).deliver fun hb hd => ?_
  · cases hx; exact hrun hs
  · exact hb.delivers_of_pulse hp (hq.symm.trans hd)

theorem State.pulseSample_soundMove (d : Int) (clip : Bool) : SoundMove s (s.pulseSample i p d clip) := by
  have hdis := p.extend_discard s.par.lane[laneOf i].tOff s.siteTime d clip
  have hpend := p.extend_pend s.par.lane[laneOf i].tOff s.siteTime d clip
  simp only [State.pulseSample]
  split
  next => exact State.normalEnd_soundMove hp hconn hdis
  next hend =>
    rw [PulseCtx.ended_iff] at hend
    have hrun (hs : s.scu[i].sound) : (p.extend s.par.lane[laneOf i].tOff s.siteTime d clip).pend.length ≤ 3 := by
      have := (hs.2.2.2.2.1 p hp).1
      omega
    split
    next => exact State.longCut_soundMove hp hconn hrun hdis
    next hcut =>
      rw [PulseCtx.cut_iff] at hcut
      refine s.updScu_soundMove i _ ⟨fun hs => ?_, .rfl, fun h => absurd (hp.symm.trans h) nofun, fun h q hq => ?_⟩
      · obtain ⟨hw, hi, hr, hn, hpulse, hst, hset, -, hcounts⟩ := id hs
        refine ⟨hw, hi, hr, hn, fun q hq => ?_, hst, hset, fun h => absurd hconn h, hcounts⟩
        cases hq
        exact ⟨hrun hs, by omega, (hpulse p hp).2.2⟩
      · cases hq
        rw [hdis]
        exact h p hp

end

/-- A sample of a standing strip moves its end run (R12). -/
theorem State.standingSample_soundMove {s : State} {i : Strip} {st : Standing} (hpulse : s.scu[i].pulse = none)
    (hconn : s.scu[i].conn = .connected) (d : Int) : SoundMove s (s.standingSample i st d) := by
  have run (n : Nat) (hn : n ≤ 3) : ChannelMove s.scu[i] { s.scu[i] with standing := some { st with endRun := n } } := by
    refine ⟨?_, .rfl, id, id⟩
    rintro ⟨hw, hi, hr, hn', -, -, hset, -, hcounts⟩
    refine ⟨hw, hi, hr, hn', fun p hp => absurd (hpulse.symm.trans hp) nofun, fun x hx => ?_, hset, fun h => absurd hconn h, hcounts⟩
    cases hx; exact hn
  unfold State.standingSample
  split
  next => exact s.updScu_soundMove i _ (run 0 (by omega))
  next =>
    split
    next h => exact s.updScu_soundMove i _ (run _ (by omega))
    next => exact s.updScu_soundMove i _ (Scu.standingOver_move s.scu[i] s.scu[i].base)

theorem advanceWait_le (n : Nat) : advanceWait n ≤ 1600 := Nat.min_le_right _ _

/-- A sample that starts no pulse moves windows, counts and the idle wait (R3, R14). -/
def Scu.rested (u : Scu) (idle : Bool) (nb : Nat) (x d : Int) : Scu :=
  let u := if idle then u.idleSample nb x d else u
  { u with idleWait := advanceWait u.idleWait }

theorem Scu.rested_move (u : Scu) (idle : Bool) (nb : Nat) (x d : Int) : ChannelMove u (u.rested idle nb x d) := by
  unfold Scu.rested
  cases idle with
  | false =>
    refine ⟨?_, .rfl, id, id⟩
    rintro ⟨-, hrest⟩
    exact ⟨advanceWait_le _, hrest⟩
  | true =>
    simp only [if_true, Scu.idleSample]
    split
    · refine ⟨?_, .rfl, id, id⟩
      rintro ⟨-, -, hr, -, hp, hst, hset, hconn, h1, h2, h3, -⟩
      exact ⟨advanceWait_le _, pushWindow_length _ _, hr, Nat.min_le_right _ _, hp, hst, hset, hconn, h1, h2, h3, bump_le _⟩
    · refine ⟨?_, .rfl, id, id⟩
      rintro ⟨-, -, hrest⟩
      exact ⟨advanceWait_le _, pushWindow_length _ _, hrest⟩

/-- A sample in SETTLING is counted, or makes the strip CONNECTED (R16). -/
theorem State.settlingSample_soundMove {s : State} {i : Strip} {k : Nat} (hconn : s.scu[i].conn = .settling k) :
    SoundMove s (s.settlingSample i k) := by
  have hne : s.scu[i].conn ≠ .connected := by rw [hconn]; nofun
  have hunder : s.scu[i].conn ≠ .underTest := by rw [hconn]; nofun
  have hfull : Config.settlingTotal = 200 := rfl
  unfold State.settlingSample
  split
  next hk =>
    refine s.updScu_soundMove i _ ⟨?_, ⟨nofun, fun h => absurd h hunder⟩, id, id⟩
    rintro ⟨hw, hi, hr, hn, hp, hst, -, hc, hcounts⟩
    exact ⟨hw, hi, hr, hn, hp, hst, fun j hj => by cases hj; omega, fun _ => hc hne, hcounts⟩
  next =>
    refine s.updScu_soundMove i _ ⟨?_, ⟨nofun, fun h => absurd h hunder⟩, id, id⟩
    rintro ⟨-, hi, hr, hn, hp, hst, -, -, hcounts⟩
    exact ⟨Nat.zero_le _, hi, hr, hn, hp, hst, nofun, fun h => absurd rfl h, hcounts⟩

end Sys2Proof.Machine

namespace Sys2Proof.Machine

/-! ### A test that is given up (R55) -/

/-- The strip under test settles, its entry returns to the queue, and no test is in flight (R55). -/
theorem State.abortTest_core {s : State} {f : Flight} (hf : s.mcs.flight = some f) (hm : s.mcs.sound)
    (hc : ∀ i : Strip, s.scu[i].conn = .underTest ↔ s.mcs.flight.map (·.entry.strip) = some i)
    (hscu : ∀ i : Strip, s.scu[i].sound) (hshu : ∀ i : Strip, s.shu[i].sound) : TestsCore (s.abortTest f) := by
  have hunder : s.scu[f.entry.strip].conn = .underTest := (hc _).2 (by rw [hf]; rfl)
  have hret := hm.return hf (min (f.entry.aborts + 1) 255)
  refine ⟨⟨hret.1, hret.2⟩, fun i => ⟨fun h => ?_, nofun⟩, nofun, fun i => ?_, hshu⟩
  · replace h : (upd s.scu f.entry.strip fun u => { u with conn := .settling 0 })[i].conn = .underTest := h
    rw [upd_get] at h
    split at h
    next => cases h
    next e =>
      have hi := (hc i).1 h
      rw [hf] at hi
      exact absurd (Option.some.inj hi) e
  · show (upd s.scu f.entry.strip fun u => { u with conn := .settling 0 })[i].sound
    rw [upd_get]
    split
    next e =>
      subst e
      obtain ⟨hw, hi, hr, hn, hp, hst, -, hcc, hcounts⟩ := hscu f.entry.strip
      exact ⟨hw, hi, hr, hn, hp, hst, fun k hk => by cases hk; omega, fun _ => hcc (by rw [hunder]; nofun), hcounts⟩
    next => exact hscu i

theorem State.abortTest_buffers {s : State} (f : Flight) (h : BuffersSound s) : BuffersSound (s.abortTest f) := by
  refine ⟨h.1, h.2.1, fun i hi => ⟨(h.2.2 i hi).1, (h.2.2 i hi).2.1, ?_⟩⟩
  show ∀ p ∈ (upd s.scu f.entry.strip fun u => { u with conn := .settling 0 })[i].pulse, p.discard = true
  rw [upd_get]
  split
  next e => subst e; exact (h.2.2 _ hi).2.2
  next => exact (h.2.2 i hi).2.2

/-! ### A pulse starts (R7, R55) -/

/-- All that a pulse start does to the schedule: nothing, unless a test is in flight on its lane. -/
theorem State.pulseStart_cases (s : State) (n : Lane) :
    (s.pulseStart n = s ∧ ∀ f, s.mcs.flight = some f → laneOf f.entry.strip ≠ n) ∨
    ∃ f, s.mcs.flight = some f ∧ laneOf f.entry.strip = n ∧ s.pulseStart n = (s.abortTest f).setWork .stopped := by
  cases hf : s.mcs.flight with
  | none => exact .inl ⟨by simp only [State.pulseStart, hf], nofun⟩
  | some f =>
    by_cases hn : laneOf f.entry.strip = n
    · exact .inr ⟨f, rfl, hn, by simp only [State.pulseStart, hf, hn, if_true]; rfl⟩
    · exact .inl ⟨by simp only [State.pulseStart, hf, if_neg hn], fun g hg => by rw [← Option.some.inj hg]; exact hn⟩

section
variable {s : State} {i : Strip} {g : Scu → Scu}

/-- A pulse starts on a CONNECTED strip: a test in flight on its lane is given up (R55). -/
theorem State.pulseStart_strips (hconn : s.scu[i].conn = .connected) (hg : (g s.scu[i]).conn = .connected)
    (hsound : s.scu[i].sound → (g s.scu[i]).sound) (hs : StripsSound s) :
    StripsSound ((s.updScu i g).pulseStart (laneOf i)) := by
  rw [stripsSound_iff] at hs ⊢
  obtain ⟨⟨hm, hc, hq, hscu, hshu⟩, hwork, hload⟩ := hs
  have hc' (j : Strip) : (s.updScu i g).scu[j].conn = .underTest ↔ s.mcs.flight.map (·.entry.strip) = some j := by
    rw [State.updScu_scu, upd_get]
    split
    next e => subst e; rw [← hc i, hconn, hg]
    next => exact hc j
  have hscu' (j : Strip) : (s.updScu i g).scu[j].sound := by
    rw [State.updScu_scu, upd_get]
    split
    next e => subst e; exact hsound (hscu i)
    next => exact hscu j
  obtain ⟨e, hlane⟩ | ⟨f, hf, -, e⟩ := (s.updScu i g).pulseStart_cases (laneOf i)
  · rw [e]
    refine ⟨⟨hm, hc', fun f hf j hj => ?_, hscu', hshu⟩, hwork, hload⟩
    rw [State.updScu_scu, upd_get, if_neg]
    · exact hq f hf j hj
    · rintro rfl
      exact hlane f hf hj.symm
  · rw [e]
    obtain ⟨h1, h2, h3, h4, h5⟩ := State.abortTest_core (s := s.updScu i g) hf hm hc' hscu' hshu
    refine ⟨⟨h1, h2, h3, h4, h5⟩, ⟨nofun, nofun⟩, fun hl => ?_⟩
    exact absurd ((hload hl).1.symm.trans hf) nofun

theorem State.pulseStart_buffers (hdis : ∀ q ∈ (g s.scu[i]).pulse, s.shu[i].state.delivers = false → q.discard = true)
    (hb : BuffersSound s) : BuffersSound ((s.updScu i g).pulseStart (laneOf i)) := by
  have hb' : BuffersSound (s.updScu i g) := by
    refine ⟨hb.1, hb.2.1, fun j hj => ⟨(hb.2.2 j hj).1, (hb.2.2 j hj).2.1, ?_⟩⟩
    rw [State.updScu_scu, upd_get]
    split
    next e => subst e; exact fun q hq => hdis q hq hj
    next => exact (hb.2.2 j hj).2.2
  obtain ⟨e, -⟩ | ⟨f, -, -, e⟩ := (s.updScu i g).pulseStart_cases (laneOf i)
  · rw [e]; exact hb'
  · rw [e]; exact State.abortTest_buffers f hb'

end

/-! ### A sample (R1) -/

/-- The channel after the first sample of a pulse (R7). -/
def State.opened (s : State) (i : Strip) (d : Int) (clip : Bool) (u : Scu) : Scu :=
  { u with
    pulse := some (PulseCtx.open s.siteTime d clip (s.shu[i].state = .outOfService))
    idleWait := advanceWait u.idleWait }

/-- A sample that finds neither a pulse nor a standing load starts a pulse, or does not. -/
theorem State.restSample_eq (s : State) (i : Strip) (x d : Int) (clip : Bool) : s.restSample i x d clip =
    if d ≥ s.par.lane[laneOf i].tOn then (s.updScu i (s.opened i d clip)).pulseStart (laneOf i)
    else s.updScu i fun u => u.rested (s.idleStrip i) s.par.lane[laneOf i].nb x d := rfl

theorem State.opened_sound {s : State} {i : Strip} (hst : s.scu[i].standing = none) (hconn : s.scu[i].conn = .connected) (d : Int)
    (clip : Bool) (hs : s.scu[i].sound) : (s.opened i d clip s.scu[i]).sound := by
  obtain ⟨-, hi, hr, hn, -, hs', hset, -, hcounts⟩ := hs
  refine ⟨advanceWait_le _, hi, hr, hn, fun p hp => ?_, hs', hset, fun h => absurd hconn h, hcounts⟩
  cases hp
  exact ⟨Nat.zero_le 3, show 1 ≤ 3999 by omega, hst⟩

/-- A property that sound moves keep and pulse starts keep is kept by every sample. -/
theorem State.takeSample_keeps {I : State → Prop} {s : State} (move : ∀ {t u : State}, SoundMove t u → I t → I u)
    (start : ∀ (t : State) (i : Strip) (d : Int) (clip : Bool), t.scu[i].conn = .connected → t.scu[i].standing = none →
      t.shu[i].state ≠ .disabled → I t → I ((t.updScu i (t.opened i d clip)).pulseStart (laneOf i)))
    (i : Strip) (code : BitVec 16) (hs : I s) : I (s.takeSample i code) := by
  simp only [State.takeSample]
  split
  next hproc =>
    obtain ⟨hconn, hdis⟩ : s.scu[i].conn = .connected ∧ s.shu[i].state ≠ .disabled := by
      simp only [State.processes, Bool.and_eq_true, decide_eq_true_eq] at hproc
      exact ⟨hproc.1.2, hproc.2⟩
    have hpush := move (s.updScu_soundMove i (fun u => { u with recentWin := pushWindow u.recentWin (sampleCode code) })
      ⟨fun ⟨hw, hi, _, hrest⟩ => ⟨hw, hi, pushWindow_length _ _, hrest⟩, .rfl, id, id⟩) hs
    have hget := upd_same s.scu i fun u => { u with recentWin := pushWindow u.recentWin (sampleCode code) }
    have hconn' : (s.updScu i fun u => { u with recentWin := pushWindow u.recentWin (sampleCode code) }).scu[i].conn =
        .connected := by rw [State.updScu_scu, hget]; exact hconn
    split
    next hp => exact move (State.pulseSample_soundMove hp hconn' _ _) hpush
    next hp hst => exact move (State.standingSample_soundMove hp hconn' _) hpush
    next hp hst =>
      rw [State.restSample_eq]
      split
      · exact start _ i _ _ hconn' hst hdis hpush
      · exact move (State.updScu_soundMove _ i _ (Scu.rested_move _ _ _ _ _)) hpush
  next =>
    split
    next hc => exact move (State.settlingSample_soundMove hc) hs
    next => exact hs

theorem takeSample_strips {s : State} (i : Strip) (code : BitVec 16) (hs : StripsSound s) : StripsSound (s.takeSample i code) :=
  State.takeSample_keeps SoundMove.strips
    (fun t i d clip hconn hst _ => State.pulseStart_strips (g := t.opened i d clip) hconn hconn (State.opened_sound hst hconn d clip))
    i code hs

theorem takeSample_buffers {s : State} (i : Strip) (code : BitVec 16) (hs : BuffersSound s) :
    BuffersSound (s.takeSample i code) := by
  refine State.takeSample_keeps SoundMove.buffers (fun t i d clip _ _ hdis => State.pulseStart_buffers fun q hq hdel => ?_)
    i code hs
  cases hq
  have hout : t.shu[i].state = .outOfService := by
    cases hst : t.shu[i].state with
    | outOfService => rfl
    | disabled => exact absurd hst hdis
    | inService | suspect | recovering => rw [hst] at hdel; cases hdel
  exact decide_eq_true hout

end Sys2Proof.Machine

namespace Sys2Proof.Machine

/-! ### The converter's schedule (R43 to R46, R53, R54) -/

/-- Between the end of a slot and the choice of the next one's work: a test is in flight exactly while its charge has just
ended. -/
structure BetweenSlots (s : State) : Prop where
  core : TestsCore s
  charged : s.mcs.flight.isSome = true ↔ s.mcs.prev = .charged

/-- A change of the schedule, of baselines and timers, and of blocks outside these conditions. -/
theorem TestsCore.of_channels {s t : State} (h : TestsCore s) (hconn : ∀ i : Strip, t.scu[i].conn = s.scu[i].conn)
    (hpulse : ∀ i : Strip, t.scu[i].pulse = s.scu[i].pulse) (hscu : ∀ i : Strip, s.scu[i].sound → t.scu[i].sound)
    (hshu : t.shu = s.shu) (hq : t.mcs.queue = s.mcs.queue) (hs : t.mcs.stamps = s.mcs.stamps)
    (hf : t.mcs.flight.map (·.entry) = s.mcs.flight.map (·.entry)) : TestsCore t := by
  have hstrip : t.mcs.flight.map (·.entry.strip) = s.mcs.flight.map (·.entry.strip) := by
    have h := congrArg (Option.map (·.strip)) hf
    rwa [Option.map_map, Option.map_map] at h
  refine ⟨h.mcs.of_fields hq hf hs, fun i => ?_, fun f hft i hi => ?_, fun i => hscu i (h.scu i), by rw [hshu]; exact h.shu⟩
  · rw [hconn, hstrip]; exact h.conn i
  · obtain ⟨g, hg, hgf⟩ : ∃ g, s.mcs.flight = some g ∧ g.entry.strip = f.entry.strip := by
      rw [Option.mem_def.1 hft] at hstrip
      simpa using hstrip.symm
    rw [hpulse]
    exact h.quiet g hg i (by rw [hgf]; exact hi)

theorem TestsCore.of_schedule {s t : State} (h : TestsCore s) (hscu : t.scu = s.scu) (hshu : t.shu = s.shu)
    (hq : t.mcs.queue = s.mcs.queue) (hs : t.mcs.stamps = s.mcs.stamps)
    (hf : t.mcs.flight.map (·.entry) = s.mcs.flight.map (·.entry)) : TestsCore t :=
  h.of_channels (by simp [hscu]) (by simp [hscu]) (by simp [hscu]) hshu hq hs hf

/-- The test that has its result leaves the part and its strip settles (R16, R54). -/
theorem State.settled_core {s : State} {f : Flight} (h : TestsCore s) (hf : s.mcs.flight = some f) (l : Vector StripTests 16) :
    TestsCore { s.settle f.entry.strip with mcs := { s.mcs with strip := l, flight := none } } := by
  obtain ⟨-, h2, h3, h4, h5⟩ := State.abortTest_core hf h.mcs h.conn h.scu h.shu
  have hd := h.mcs.drop
  exact ⟨⟨hd.1, hd.2⟩, h2, h3, h4, h5⟩

theorem State.endWork_between {s : State} (hs : StripsSound s) (code : BitVec 16) : BetweenSlots (s.endWork code) := by
  rw [stripsSound_iff] at hs
  obtain ⟨hcore, hwork, -⟩ := hs
  have idle {t : State} (ht : TestsCore t) (hn : t.mcs.flight = none) {o : SlotOutcome} (ho : o ≠ .charged) :
      BetweenSlots (t.setPrev o) :=
    ⟨ht.of_schedule rfl rfl rfl rfl rfl, ⟨fun h => absurd (show t.mcs.flight.isSome = true from h) (by rw [hn]; decide),
      fun h => absurd h ho⟩⟩
  have hnone (h : ¬ (s.mcs.work = .charge ∨ s.mcs.work = .read)) : s.mcs.flight = none :=
    Option.not_isSome_iff_eq_none.1 fun hf => h (hwork.1 hf)
  unfold State.endWork
  split
  next p hw =>
    have hflight := hnone (by rw [hw]; nofun)
    obtain ⟨-, -, -, hscu, hmcs, hapu, -, -, -, hshu, -⟩ := s.reading_frame p code.toInt
    refine idle (hcore.of_schedule hscu hshu ?_ ?_ ?_) (by rw [hmcs]; exact hflight) nofun
    all_goals rw [hmcs]
  next hw =>
    have hf : s.mcs.flight.isSome = true := hwork.2 (.inl hw)
    exact ⟨hcore.of_schedule rfl rfl rfl rfl rfl, ⟨fun _ => rfl, fun _ => hf⟩⟩
  next hw =>
    split
    next f hf =>
      have hm := State.testResult_soundMove
        { s.settle f.entry.strip with mcs := { s.mcs with
            strip := upd s.mcs.strip f.entry.strip fun t =>
              { t with
                lastCode := some code.toNat
                passed := if decide (s.par.testLimit ≤ code.toNat) = true then bump t.passed else t.passed
                failed := if decide (s.par.testLimit ≤ code.toNat) = true then t.failed else bump t.failed
                periodicDue := s.nextPeriod }
            flight := none } } f.entry.strip (decide (s.par.testLimit ≤ code.toNat))
      refine idle (hm.core (State.settled_core hcore hf _)) ?_ nofun
      exact Option.map_eq_none_iff.1 hm.flight
    next hf => exact idle hcore hf nofun
  next hw => exact idle hcore (hnone (by rw [hw]; nofun)) nofun
  next hw => exact idle hcore (hnone (by rw [hw]; nofun)) nofun

/-- The running slot reads the test in flight. -/
def State.slotReads (s : State) : Prop := s.mcs.slot.rule = .read ∧ Config.readMin ≤ s.mcs.slot.len

theorem State.breakSequence_between {s : State} (hs : BetweenSlots s) :
    BetweenSlots s.breakSequence ∧ (s.breakSequence.mcs.flight.isSome = true → s.breakSequence.slotReads) := by
  obtain ⟨hcore, hcharged⟩ := hs
  cases hf : s.mcs.flight with
  | none =>
    have e : s.breakSequence = s := by simp only [State.breakSequence, hf]
    rw [e, hf]
    exact ⟨⟨hcore, hcharged⟩, nofun⟩
  | some f =>
    have hprev : s.mcs.prev = .charged := hcharged.1 (by rw [hf]; rfl)
    by_cases hr : s.slotReads
    · have e : s.breakSequence = s := by
        simp only [State.breakSequence, hf]
        exact if_neg fun h => h.2 hr
      rw [e]
      exact ⟨⟨hcore, hcharged⟩, fun _ => hr⟩
    · have habort := State.abortTest_core hf hcore.mcs hcore.conn hcore.scu hcore.shu
      have hgone : BetweenSlots { s.abortTest f with mcs := { (s.abortTest f).mcs with prev := .aborted } } :=
        ⟨habort.of_schedule rfl rfl rfl rfl rfl, ⟨nofun, nofun⟩⟩
      have e : s.breakSequence =
          if s.mcs.slot.rule = .read then
            State.latchShort { s.abortTest f with mcs := { (s.abortTest f).mcs with prev := .aborted } }
          else { s.abortTest f with mcs := { (s.abortTest f).mcs with prev := .aborted } } := by
        simp only [State.breakSequence, hf]
        exact if_pos ⟨hprev, hr⟩
      rw [e]
      split
      · exact ⟨⟨hgone.core.of_schedule rfl rfl rfl rfl rfl, hgone.charged⟩, nofun⟩
      · exact ⟨hgone, nofun⟩

/-! ### The choice of a slot's work (R44, R45, R52, R53) -/

theorem mem_laneStrips (i : Strip) : i ∈ laneStrips (laneOf i) := by revert i; decide

/-- No strip of a quiet lane has a pulse in progress or stands (R51). -/
theorem State.quiet_strip {s : State} {i : Strip} (h : s.quiet (laneOf i) = true) :
    s.scu[i].pulse = none ∧ s.scu[i].standing = none := by
  simp only [State.quiet, Bool.and_eq_true, List.all_eq_true] at h
  have hi := h.1.1 i (mem_laneStrips i)
  simp only [State.stripBusy, Bool.not_eq_true', Bool.or_eq_false_iff, Option.isSome_eq_false_iff, Option.isNone_iff_eq_none]
    at hi
  exact ⟨hi.1.1.1, hi.1.1.2⟩

/-- A charge slot takes an entry of the queue that is eligible (R44, R52). -/
theorem State.testToTake_spec {s : State} {e : TestEntry} (h : s.testToTake = some e) :
    e ∈ s.mcs.queue ∧ s.scu[e.strip].conn = .connected ∧ s.quiet (laneOf e.strip) = true := by
  unfold State.testToTake at h
  split at h
  · have hel := List.find?_some h
    simp only [State.eligible, Bool.and_eq_true, decide_eq_true_eq] at hel
    exact ⟨List.mem_of_find?_eq_some h, hel.1.2, hel.2⟩
  · cases h

/-- All that R44's table can choose. -/
theorem State.choose_cases (s : State) (r : SlotRule) :
    (∃ p, s.choose r = .probe p ∧ r ≠ .read) ∨ (∃ e, s.choose r = .charge e ∧ s.testToTake = some e ∧ r ≠ .read) ∨
    (s.choose r = .read ∧ r = .read ∧ s.mcs.prev = .charged) ∨
    (s.choose r = .none ∧ (r = .read → s.mcs.prev ≠ .charged)) := by
  have hprobe (h : r ≠ .read) : (∃ p, s.chooseProbe = .probe p ∧ r ≠ .read) ∨
      (s.chooseProbe = .none ∧ (r = .read → s.mcs.prev ≠ .charged)) := by
    unfold State.chooseProbe
    split
    · exact .inl ⟨_, rfl, h⟩
    · exact .inr ⟨rfl, fun h' => absurd h' h⟩
  cases r with
  | probe =>
    obtain h | h := hprobe nofun
    · exact .inl h
    · exact .inr (.inr (.inr h))
  | chargeElseProbe =>
    cases ht : s.testToTake with
    | some e => exact .inr (.inl ⟨e, by simp only [State.choose, ht], rfl, nofun⟩)
    | none =>
      simp only [State.choose, ht]
      obtain h | h := hprobe nofun
      · exact .inl h
      · exact .inr (.inr (.inr h))
  | chargeElseIdle =>
    cases ht : s.testToTake with
    | some e => exact .inr (.inl ⟨e, by simp only [State.choose, ht], rfl, nofun⟩)
    | none => exact .inr (.inr (.inr ⟨by simp only [State.choose, ht], nofun⟩))
  | read =>
    by_cases hp : s.mcs.prev = .charged
    · exact .inr (.inr (.inl ⟨by simp only [State.choose, hp, if_true], rfl, hp⟩))
    · exact .inr (.inr (.inr ⟨by simp only [State.choose, if_neg hp], fun _ => hp⟩))
  | idle => exact .inr (.inr (.inr ⟨rfl, nofun⟩))

/-- A charge starts: its entry leaves the queue, and its lane was quiet (R16, R53). -/
theorem State.startCharge_core {s : State} {e : TestEntry} (h : TestsCore s) (hf : s.mcs.flight = none)
    (he : s.testToTake = some e) : TestsCore (s.startCharge e) := by
  obtain ⟨hmem, hconn, hquiet⟩ := State.testToTake_spec he
  have hpulse {i : Strip} (hi : laneOf i = laneOf e.strip) := State.quiet_strip (s := s) (i := i) (by rw [hi]; exact hquiet)
  have hget (i : Strip) : (s.startCharge e).scu[i] = if e.strip = i then
      { s.scu[i] with conn := .underTest, disturb := some { start := s.siteTime, stop := none } } else s.scu[i] := upd_get _ _ _ _
  refine ⟨h.mcs.charge hf hmem .charge, fun i => ?_, fun f hft i hi => ?_, fun i => ?_, h.shu⟩
  · rw [hget]
    show _ ↔ some e.strip = some i
    split
    next e' => exact ⟨fun _ => congrArg some e', fun _ => rfl⟩
    next e' =>
      refine ⟨fun hu => ?_, fun hu => absurd (Option.some.inj hu) e'⟩
      have := (h.conn i).1 hu
      rw [hf] at this
      cases this
  · cases hft
    rw [hget]
    split
    · exact (hpulse hi).1
    · exact (hpulse hi).1
  · rw [hget]
    split
    next e' =>
      obtain ⟨hw, hid, hr, hn, hp, hst, -, -, hcounts⟩ := h.scu i
      exact ⟨hw, hid, hr, hn, hp, hst, nofun, fun _ => hpulse (congrArg laneOf e'.symm), hcounts⟩
    next => exact h.scu i

/-- The converter charges or reads exactly while a test is in flight (R53). -/
def WorksOnTest (s : State) : Prop := s.mcs.flight.isSome = true ↔ s.mcs.work = .charge ∨ s.mcs.work = .read

theorem State.chooseWork_sound {s : State} (hs : BetweenSlots s) (hr : s.mcs.flight.isSome = true → s.slotReads) :
    TestsCore s.chooseWork ∧ WorksOnTest s.chooseWork := by
  obtain ⟨hcore, hcharged⟩ := hs
  have he : s.chooseWork =
      if (s.choose s.mcs.slot.rule).fits s.mcs.slot.len s.mcs.nextSlot.len then s.beginWork (s.choose s.mcs.slot.rule)
      else (s.setWork .none).latchShort := rfl
  have idle {t : State} (ht : TestsCore t) (hn : t.mcs.flight = none) (hw : ¬ (t.mcs.work = .charge ∨ t.mcs.work = .read)) :
      TestsCore t ∧ WorksOnTest t :=
    ⟨ht, ⟨fun h => absurd h (by rw [hn]; decide), fun h => absurd h hw⟩⟩
  cases hf : s.mcs.flight with
  | some f =>
    have hsome : s.mcs.flight.isSome = true := by rw [hf]; rfl
    obtain ⟨hrule, hlen⟩ := hr hsome
    have hread : s.choose s.mcs.slot.rule = .read := by
      simp only [hrule, State.choose, hcharged.1 hsome, if_true]
    have hfits : Choice.fits .read s.mcs.slot.len s.mcs.nextSlot.len = true := decide_eq_true hlen
    rw [he, hread, if_pos hfits]
    refine ⟨hcore.of_schedule rfl rfl rfl rfl ?_, ⟨fun _ => .inr rfl, fun _ => ?_⟩⟩
    · simp only [State.beginWork, hf, Option.map_some]
    · simp only [State.beginWork, hf, Option.map_some, Option.isSome_some]
  | none =>
    have hprev : s.mcs.prev ≠ .charged := fun h => by
      have := hcharged.2 h
      rw [hf] at this
      cases this
    rw [he]
    split
    next =>
      obtain ⟨p, e, -⟩ | ⟨e, ec, ht, -⟩ | ⟨-, -, h⟩ | ⟨e, -⟩ := s.choose_cases s.mcs.slot.rule
      · rw [e]; exact idle (hcore.of_schedule rfl rfl rfl rfl rfl) hf nofun
      · rw [ec]; exact ⟨State.startCharge_core hcore hf ht, ⟨fun _ => .inl rfl, fun _ => rfl⟩⟩
      · exact absurd h hprev
      · rw [e]; exact idle (hcore.of_schedule rfl rfl rfl rfl rfl) hf nofun
    next => exact idle (hcore.of_schedule rfl rfl rfl rfl rfl) hf nofun

theorem State.beginSlot_sound {s : State} (hs : BetweenSlots s) : TestsCore s.beginSlot ∧ WorksOnTest s.beginSlot := by
  obtain ⟨hbreak, hr⟩ := State.breakSequence_between
    (s := { s with mcs := { s.mcs with slotDue := some (after s.siteTime (s.mcs.frame[s.mcs.pos].len * 16)) } })
    ⟨hs.core.of_schedule rfl rfl rfl rfl rfl, hs.charged⟩
  exact State.chooseWork_sound hbreak hr

theorem StripsSound.of_loaded {s : State} (h : TestsCore s ∧ WorksOnTest s) (hl : s.loaded = true) : StripsSound s :=
  (stripsSound_iff s).2 ⟨h.1, h.2, fun h' => by rw [hl] at h'; cases h'⟩

theorem Mcs.advance_rest (m : Mcs) : m.advance = { m with frame := m.advance.frame, pos := m.advance.pos } := by
  obtain ⟨k, -, e⟩ | ⟨-, e⟩ := m.advance_cases
  · rw [e]
  · rw [e]

theorem slotBoundary_strips {code : BitVec 16} {s t : State} (hs : StripsSound s) (h : execSlotBoundary code s = .next t) :
    StripsSound t := by
  rw [← Host.Outcome.next.inj h]
  split
  next hdue =>
    have hl : s.loaded = true := by
      by_contra hl
      have hload := ((stripsSound_iff s).1 hs).2.2 (by simpa using hl)
      simp [hload.2.1, expired] at hdue
    obtain ⟨hcore, hch⟩ := State.endWork_between hs code
    obtain ⟨-, hload, -⟩ := s.endWork_frame code
    generalize s.endWork code = u at hcore hch hload ⊢
    obtain ⟨-, hload', -⟩ := State.beginSlot_frame { u with mcs := u.mcs.advance }
    refine .of_loaded (State.beginSlot_sound ⟨?_, ?_⟩) ((hload'.trans hload).trans hl)
    · refine hcore.of_schedule rfl rfl ?_ ?_ ?_
      all_goals rw [Mcs.advance_rest]
    · rw [Mcs.advance_rest]
      exact hch
  next => exact hs

theorem State.startStrips_scu (s : State) (i : Strip) : s.startStrips.scu[i] = { s.scu[i] with
    base := s.cst.working.strip[i].z
    azDue := some (after s.siteTime (s.par.azStep * 160))
    noiseDue := some (after s.siteTime Config.noiseRun) } := by
  simp only [State.startStrips, Fin.getElem_fin, Vector.getElem_ofFn]

theorem State.startStrips_mcs (s : State) : s.startStrips.mcs = { s.mcs with strip := s.startStrips.mcs.strip } := rfl

/-- The start of the strips moves baselines and timers alone (R21, R58). -/
theorem State.startStrips_core {s : State} (h : TestsCore s) : TestsCore s.startStrips := by
  have hshu : s.startStrips.shu = s.shu := by rw [State.startStrips]
  refine h.of_channels (fun i => ?_) (fun i => ?_) (fun i => ?_) hshu ?_ ?_ ?_
  · rw [State.startStrips_scu]
  · rw [State.startStrips_scu]
  · rw [State.startStrips_scu]; simp only [Scu.sound]; exact id
  all_goals rw [State.startStrips_mcs]

theorem loadCompletion_strips {s t : State} (hs : StripsSound s) (h : execLoadCompletion s = .next t) : StripsSound t := by
  cases hl : s.loaded with
  | true =>
    simp only [execLoadCompletion, hl, if_true] at h
    cases h
    exact hs
  | false =>
    rw [execLoadCompletion_eq hl, State.foldl_startStrip] at h
    rw [← Host.Outcome.next.inj h]
    obtain ⟨hcore, -, hload⟩ := (stripsSound_iff s).1 hs
    obtain ⟨hf, -, hp⟩ := hload hl
    have htaken : TestsCore s.loadTaken := hcore.of_schedule rfl rfl rfl rfl rfl
    have hcharged : s.loadTaken.mcs.flight.isSome = true ↔ s.loadTaken.mcs.prev = .charged :=
      ⟨fun h => absurd (show s.mcs.flight.isSome = true from h) (by rw [hf]; decide), fun h => absurd h hp⟩
    have hloaded : s.loadTaken.loaded = true := rfl
    generalize s.loadTaken = u at htaken hcharged hloaded ⊢
    obtain ⟨-, hload', -⟩ := u.startStrips.beginSlot_frame
    have hloaded' : u.startStrips.loaded = u.loaded := by rw [State.startStrips]
    have hbetween : BetweenSlots u.startStrips :=
      ⟨State.startStrips_core htaken, by rw [State.startStrips_mcs]; exact hcharged⟩
    exact .of_loaded (State.beginSlot_sound hbetween) ((hload'.trans hloaded').trans hloaded)

end Sys2Proof.Machine

namespace Sys2Proof.Machine

/-! ### The schedule and the buffers -/

/-- A change that leaves the pulses in progress, the buffers and the health records. -/
theorem BuffersSound.of_pulses {s t : State} (h : BuffersSound s) (hpulse : ∀ i : Strip, t.scu[i].pulse = s.scu[i].pulse)
    (hapu : t.apu = s.apu) (hshu : t.shu = s.shu) : BuffersSound t := by
  simpa only [BuffersSound, hpulse, hapu, hshu] using h

theorem BuffersSound.updScu {s : State} (h : BuffersSound s) (i : Strip) {f : Scu → Scu} (hf : ∀ u, (f u).pulse = u.pulse) :
    BuffersSound (s.updScu i f) := by
  refine h.of_pulses (fun j => ?_) rfl rfl
  rw [State.updScu_scu, upd_get]
  split
  · exact hf _
  · rfl

theorem endWork_buffers {s : State} (h : BuffersSound s) (code : BitVec 16) : BuffersSound (s.endWork code) := by
  have other {t : State} (ht : BuffersSound t) (o : SlotOutcome) : BuffersSound (t.setPrev o) := ht
  unfold State.endWork
  split
  next p _ =>
    obtain ⟨-, -, -, hscu, -, hapu, -, -, -, hshu, -⟩ := s.reading_frame p code.toInt
    exact other (h.of_pulses (fun i => by rw [hscu]) hapu hshu) _
  next => exact other h _
  next =>
    split
    next f _ =>
      refine other (SoundMove.buffers (State.testResult_soundMove _ _ _) ?_) _
      exact BuffersSound.updScu (s := s) h f.entry.strip (f := fun u => { u with conn := .settling 0 }) fun _ => rfl
    next => exact other h _
  next => exact other h _
  next => exact other h _

theorem breakSequence_buffers {s : State} (h : BuffersSound s) : BuffersSound s.breakSequence := by
  simp only [State.breakSequence]
  split
  next f _ =>
    have ha := State.abortTest_buffers f h
    repeat' split
    · exact ha
    · exact ha
    · exact h
  next => exact h

theorem chooseWork_buffers {s : State} (h : BuffersSound s) : BuffersSound s.chooseWork := by
  simp only [State.chooseWork]
  split
  · unfold State.beginWork
    split
    · exact h
    next e _ => exact BuffersSound.updScu (s := s) h e.strip (fun _ => rfl)
    · exact h
    · exact h
  · exact h

theorem beginSlot_buffers {s : State} (h : BuffersSound s) : BuffersSound s.beginSlot :=
  chooseWork_buffers (breakSequence_buffers h)

theorem slotBoundary_buffers {code : BitVec 16} {s t : State} (h : BuffersSound s) (ht : execSlotBoundary code s = .next t) :
    BuffersSound t := by
  rw [← Host.Outcome.next.inj ht]
  split
  · have he := endWork_buffers h code
    generalize s.endWork code = u at he
    exact beginSlot_buffers (s := { u with mcs := u.mcs.advance }) he
  · exact h

theorem loadCompletion_buffers {s t : State} (h : BuffersSound s) (ht : execLoadCompletion s = .next t) : BuffersSound t := by
  cases hl : s.loaded with
  | true =>
    simp only [execLoadCompletion, hl, if_true] at ht
    cases ht
    exact h
  | false =>
    rw [execLoadCompletion_eq hl, State.foldl_startStrip] at ht
    rw [← Host.Outcome.next.inj ht]
    have htaken : BuffersSound s.loadTaken := h
    generalize s.loadTaken = u at htaken
    exact beginSlot_buffers (htaken.of_pulses (fun i => by rw [State.startStrips_scu]) (by rw [State.startStrips])
      (by rw [State.startStrips]))

/-! ### Resets (R211, R212) -/

theorem mapAll_get {α β : Type} {n : Nat} (v : Vector α n) (f : α → β) (i : Fin n) : (mapAll v f)[i] = f v[i] := by
  simp

theorem State.dropTests_sound {s : State} (hs : StripsSound s) : StripsSound s.dropTests ∧ s.dropTests.mcs.flight = none := by
  rw [stripsSound_iff] at hs ⊢
  obtain ⟨hcore, hwork, hload⟩ := hs
  have empty {m : Mcs} (hm : m.flight = none) : Mcs.sound { m with queue := [] } := by
    simp [Mcs.sound, Mcs.entries, hm, EntriesSound]
  cases hf : s.mcs.flight with
  | none =>
    have e : s.dropTests = { s with mcs := { s.mcs with queue := [] } } := by simp only [State.dropTests, hf]
    rw [e]
    exact ⟨⟨⟨empty hf, hcore.conn, hcore.quiet, hcore.scu, hcore.shu⟩, hwork, hload⟩, hf⟩
  | some f =>
    have e : s.dropTests =
        { (s.abortTest f).setWork .stopped with mcs := { ((s.abortTest f).setWork .stopped).mcs with queue := [] } } := by
      simp only [State.dropTests, hf]
    obtain ⟨-, h2, h3, h4, h5⟩ := State.abortTest_core hf hcore.mcs hcore.conn hcore.scu hcore.shu
    rw [e]
    refine ⟨⟨⟨empty rfl, h2, h3, h4, h5⟩, ⟨nofun, nofun⟩, fun hl => ?_⟩, rfl⟩
    exact absurd ((hload hl).1.symm.trans hf) nofun

theorem Scu.trafficReset_sound {u : Scu} (h : u.sound) : u.trafficReset.sound := by
  obtain ⟨hw, hi, hr, hn, -, -, hset, -, hcounts⟩ := h
  refine ⟨?_, hi, hr, hn, nofun, nofun, hset, fun _ => ⟨rfl, rfl⟩, hcounts⟩
  simp only [Scu.trafficReset]
  split
  · exact Nat.zero_le 1600
  · exact hw

theorem trafficReset_strips {s : State} (hs : StripsSound s) : StripsSound s.trafficReset := by
  obtain ⟨hdrop, hflight⟩ := State.dropTests_sound hs
  rw [stripsSound_iff] at hdrop ⊢
  obtain ⟨⟨hm, hc, -, hscu, hshu⟩, hwork, hload⟩ := hdrop
  unfold State.trafficReset
  generalize s.dropTests = u at *
  refine ⟨⟨hm, fun i => ?_, fun f hf => absurd (hflight.symm.trans hf) nofun, fun i => ?_, fun i => ?_⟩, hwork, hload⟩
  · simp only [mapAll_get]; exact hc i
  · simp only [mapAll_get]; exact Scu.trafficReset_sound (hscu i)
  · simp only [mapAll_get]
    obtain ⟨-, hrest⟩ := hshu i
    exact ⟨Nat.zero_le 255, hrest⟩

theorem trafficReset_buffers {s : State} : BuffersSound s.trafficReset := by
  have hside (i : Strip) : s.trafficReset.apu.side[i] = [] := by
    simp [State.trafficReset, Apu.trafficReset, Apu.reset]
  have hqueue (n : Lane) : s.trafficReset.apu.queue[n] = [] := by
    simp [State.trafficReset, Apu.trafficReset, Apu.reset]
  have hpulse (i : Strip) : s.trafficReset.scu[i].pulse = none := by
    simp [State.trafficReset, Scu.trafficReset]
  refine ⟨fun i => ?_, fun n => ?_, fun i _ => ⟨hside i, nofun, fun p hp => ?_⟩⟩
  · rw [hside]; exact ⟨Nat.zero_le 4, nofun⟩
  · rw [hqueue]; exact ⟨Nat.zero_le 4, nofun⟩
  · rw [hpulse] at hp; cases hp

section
variable (node : BitVec 2) (nv : Nonvolatile) (calsw : Bool) (pending : List Instr)

theorem State.atReset_scu (i : Strip) : (State.atReset node nv calsw pending).scu[i] = Scu.reset := by simp [State.atReset]

theorem State.atReset_shu (i : Strip) : (State.atReset node nv calsw pending).shu[i] = Health.reset := by simp [State.atReset]

theorem Scu.reset_sound : Scu.reset.sound :=
  ⟨Nat.zero_le _, Nat.zero_le _, Nat.zero_le _, Nat.zero_le _, nofun, nofun, nofun, fun _ => ⟨rfl, rfl⟩, Nat.zero_le _,
    Nat.zero_le _, Nat.zero_le _, Nat.zero_le _⟩

theorem Health.reset_sound : Health.reset.sound :=
  ⟨Nat.zero_le _, Nat.zero_le _, Nat.zero_le _, fun _ => rfl, nofun, nofun, nofun⟩

theorem StripsSound.atReset : StripsSound (State.atReset node nv calsw pending) := by
  rw [stripsSound_iff]
  refine ⟨⟨⟨⟨.nil, .nil, nofun⟩, .nil⟩, fun i => ?_, nofun, fun i => ?_, fun i => ?_⟩, ⟨nofun, nofun⟩, fun _ => ⟨rfl, rfl, nofun⟩⟩
  · rw [State.atReset_scu]; exact ⟨nofun, nofun⟩
  · rw [State.atReset_scu]; exact Scu.reset_sound
  · rw [State.atReset_shu]; exact Health.reset_sound

theorem BuffersSound.atReset : BuffersSound (State.atReset node nv calsw pending) := by
  refine ⟨fun i => ?_, fun n => ?_, fun i h => ?_⟩
  · have hside : (State.atReset node nv calsw pending).apu.side[i] = [] := by simp [State.atReset, Apu.reset]
    rw [hside]; exact ⟨Nat.zero_le 4, nofun⟩
  · have hqueue : (State.atReset node nv calsw pending).apu.queue[n] = [] := by simp [State.atReset, Apu.reset]
    rw [hqueue]; exact ⟨Nat.zero_le 4, nofun⟩
  · rw [State.atReset_shu] at h
    cases h

end

/-! ### Every step keeps them -/

/-- A property that sound moves keep needs to be looked at only where a pulse starts, a slot ends, the load completes or the part
is reset. -/
theorem Kept.of_soundMove {I : State → Prop} (move : ∀ {s t : State}, SoundMove s t → I s → I t)
    (sampled : ∀ {s : State} (i : Strip) (code : BitVec 16), I s → I (s.takeSample i code))
    (slotBoundary : ∀ {s t : State} (code : BitVec 16), I s → execSlotBoundary code s = .next t → I t)
    (deviceReset : ∀ (node : BitVec 2) (nv : Nonvolatile) (calsw : Bool) (pending : List Instr),
      I (State.atReset node nv calsw pending))
    (loadCompletion : ∀ {s t : State}, I s → execLoadCompletion s = .next t → I t)
    (trafficReset : ∀ {s : State}, I s → I s.trafficReset) : Kept I where
  same h := move h.soundMove
  applied p k v _ _ hs h := move (paramApplier_soundMove p k v h) hs
  sampled := sampled
  autoZeroStep _ hs h := move (autoZeroStep_soundMove h) hs
  pinnedTimer _ hs h := move (pinnedTimer_soundMove h) hs
  standingTimer _ hs h := move (standingTimer_soundMove h) hs
  noiseWindow _ hs h := move (noiseWindow_soundMove h) hs
  pulseArrival i hs h := move ((SoundMove.keptByPairing _).pulseArrival i (.refl _) h) hs
  loneExpiry i k hs h := move ((SoundMove.keptByPairing _).loneExpiry i k (.refl _) h) hs
  entryExpiry n k hs h := move ((SoundMove.keptByPairing _).entryExpiry n k (.refl _) h) hs
  slotBoundary := slotBoundary
  periodicTimer _ hs h := move (periodicTimer_soundMove h) hs
  holdoff _ hs h := move (holdoffExpiry_soundMove h) hs
  storeCompletion _ hs h := move (storeCompletion_soundMove h) hs
  deviceReset := deviceReset
  loadCompletion := loadCompletion
  counterRead p := move (counterRead_soundMove p _)
  trafficReset := trafficReset
  stripRemove p := move (stripRemove_soundMove p _)
  stripRestore p := move (stripRestore_soundMove p _)
  stripTest p := move (stripTest_soundMove p _)
  stripStatus p := move (stripStatus_soundMove p _)
  staged _ _ := move (.of_blocks rfl rfl rfl rfl rfl)
  calLoad := move (.of_blocks rfl rfl rfl rfl rfl)

theorem stripsSound_kept : Kept StripsSound :=
  .of_soundMove SoundMove.strips takeSample_strips (fun _ => slotBoundary_strips) .atReset loadCompletion_strips
    trafficReset_strips

theorem buffersSound_kept : Kept BuffersSound :=
  .of_soundMove SoundMove.buffers takeSample_buffers (fun _ => slotBoundary_buffers) .atReset loadCompletion_buffers
    fun _ => trafficReset_buffers

/-- Settles O59: every command is a sound move, or starts a pulse, ends a slot or resets the part with what those bring along. -/
theorem stepsKeepStripsAndBuffersSound : Obligations.StepsKeepStripsAndBuffersSound :=
  ⟨fun _ _ hs h => stripsSound_kept.step hs h, fun _ _ hs h => buffersSound_kept.step hs h⟩

end Sys2Proof.Machine

namespace Sys2Proof.Machine

/-! ### An addressed command and its answer (R202) -/

/-- A state whose latest transaction of n bytes has clocked out the old response of s. -/
def State.clocked (s t : State) (n : Nat) : State := { t with cpt := { t.cpt with miso := s.cpt.resp.driven n } }

theorem Scope.size_le (c : Scope) : c.size ≤ 16 := by cases c <;> decide

section
variable {s t : State} {x : Xfer} (h : s.taker x.addr = .addressed)
include h

/-- The answer of an addressed command is what its rule gives after the old response has been clocked out. -/
theorem addressedCommand_answers {code : Byte} {p : List Byte} {run : List Byte → State → Reply × State} {st : Status}
    {payload : List Byte} (hrun : run p (s.drive (xferBytes x p)) = (⟨st, payload⟩, s.clocked t (xferBytes x p))) :
    addressedCommand code x p run s = .next (s.answered t (xferBytes x p) code st payload) := by
  rw [addressedCommand, hostCommand_addressed _ _ _ _ _ _ h, hrun]
  rfl

/-- A refused command leaves the part as it was. -/
theorem addressedCommand_refuses {code : Byte} {p : List Byte} {run : List Byte → State → Reply × State} {st : Status}
    (hrun : run p (s.drive (xferBytes x p)) = refuse st (s.drive (xferBytes x p))) :
    addressedCommand code x p run s = .next (s.answered s (xferBytes x p) code st []) :=
  addressedCommand_answers h hrun

/-- A PARAM_WRITE that its owner applies answers with the value as it then stands (R207). -/
theorem paramCommand_answers {p : Param} {k : Nat} {v : BitVec 32} {apply : Applier} {w : Int} (hk : k < (paramScope p).size)
    (hq : s.quietFor (paramScope p) k = true)
    (ha : apply k v.toInt (s.drive (xferBytes x (p.id :: written k v))) =
      some (s.clocked t (xferBytes x (p.id :: written k v))))
    (hw : t.paramValue p k = w) : paramCommand p apply x (written k v) s =
      .next (s.answered t (xferBytes x (p.id :: written k v)) 0x02 .ok (valueOf p k w)) := by
  have hk' : u8 (written k v) 0 = k := by
    have := Scope.size_le (paramScope p)
    rw [u8_written]
    omega
  refine addressedCommand_answers h ?_
  have hbad : ¬ ((written k v).length ≠ 5 ∨ (paramScope p).size ≤ k) := by
    rw [written_length]
    omega
  have hbusy (n : Nat) : ¬ (!(s.drive n).quietFor (paramScope p) k) = true := by
    rw [show (s.drive n).quietFor (paramScope p) k = true from hq]
    decide
  simp only [paramWrite, hk', if_neg hbad, if_neg (hbusy _), s32_written, ha, accept, Reply.ok, valueOf]
  rw [show (s.clocked t (xferBytes x (p.id :: written k v))).paramValue p k = w from hw]

/-- A parameter of a quiet lane is stored (R207). -/
theorem laneCommand_answers {p : Param} {n : Lane} {v : BitVec 32} {apply : Applier} {w : Int} {f g : LanePar → LanePar}
    (hp : paramScope p = .lane) (hq : s.quiet n = true)
    (ha : ∀ u : State, apply n.val v.toInt u = some (u.updLanePar (Fin.ofNat 4 n.val) g))
    (hg : g s.par.lane[n] = f s.par.lane[n])
    (hw : ({ s with par := { s.par with lane := upd s.par.lane n f } } : State).paramValue p n.val = w) :
    paramCommand p apply x (written n.val v) s =
      .next (s.answered { s with par := { s.par with lane := upd s.par.lane n f } }
        (xferBytes x (p.id :: written n.val v)) 0x02 .ok (valueOf p n.val w)) := by
  refine paramCommand_answers h (by rw [hp]; exact n.isLt) ?_ ?_ hw
  · rw [hp, State.quietFor, Fin.ofNat_val_eq_self]
    exact hq
  · rw [ha, Fin.ofNat_val_eq_self]
    simp only [State.updLanePar, State.updPar, State.drive_par, upd_congr s.par.lane n hg]
    rfl

/-- A site parameter is stored (R207). -/
theorem siteCommand_answers {p : Param} {v : BitVec 32} {apply : Applier} {w : Int} {q : Par} (hp : paramScope p = .site)
    (ha : ∀ u : State, u.par = s.par → apply 0 v.toInt u = some { u with par := q })
    (hw : ({ s with par := q } : State).paramValue p 0 = w) :
    paramCommand p apply x (written 0 v) s =
      .next (s.answered { s with par := q } (xferBytes x (p.id :: written 0 v)) 0x02 .ok (valueOf p 0 w)) := by
  exact paramCommand_answers h (by rw [hp]; decide) (by rw [hp]; rfl) (ha (s.drive _) rfl) hw

end

/-! ### Stored parameters (R6, R207) -/

/-- The value of a lane parameter after a write of its lane. -/
theorem paramValue_lane (s : State) (n : Lane) (f : LanePar → LanePar) (p : Param) (g : LanePar → Int)
    (hp : ∀ t : State, t.paramValue p n.val = g t.par.lane[Fin.ofNat 4 n.val]) :
    ({ s with par := { s.par with lane := upd s.par.lane n f } } : State).paramValue p n.val = g (f s.par.lane[n]) := by
  simp only [hp, Fin.ofNat_val_eq_self]
  exact congrArg g (upd_same s.par.lane n f)

/-- Settles O14: each of the three is a write of its lane's record, whose clamps are those of R6. -/
theorem thresholdWritesKeepTheirOrder : Obligations.ThresholdWritesKeepTheirOrder := by
  intro s x n v h hq lane on off nb
  refine ⟨?_, ?_, ?_⟩
  · exact laneCommand_answers h rfl hq (fun _ => rfl) rfl (paramValue_lane s n _ .tOn (fun l => l.tOn) fun _ => rfl)
  · exact laneCommand_answers h rfl hq (fun _ => rfl) rfl (paramValue_lane s n _ .tOff (fun l => l.tOff) fun _ => rfl)
  · exact laneCommand_answers h rfl hq (fun _ => rfl) rfl (paramValue_lane s n _ .nb (fun l => l.nb) fun _ => rfl)

/-- Settles O15: each is a write of one field of its lane's record. -/
theorem laneParameterWritesClamp : Obligations.LaneParameterWritesClamp := by
  intro s x n v h hq held result
  refine ⟨?_, ?_, ?_, ?_, ?_, ?_⟩
  · exact laneCommand_answers h rfl hq (fun _ => rfl) rfl (paramValue_lane s n _ .noiseLim (fun l => l.noiseLim) fun _ => rfl)
  · exact laneCommand_answers h rfl hq (fun _ => rfl) rfl (paramValue_lane s n _ .wLr (fun l => l.wLr) fun _ => rfl)
  · exact laneCommand_answers h rfl hq (fun _ => rfl) rfl (paramValue_lane s n _ .spdtol (fun l => l.spdTol) fun _ => rfl)
  · exact laneCommand_answers h rfl hq (fun _ => rfl) rfl (paramValue_lane s n _ .maxsp (fun l => l.maxSp) fun _ => rfl)
  · exact laneCommand_answers h rfl hq (fun _ => rfl) rfl (paramValue_lane s n _ .maxclose (fun l => l.maxClose) fun _ => rfl)
  · exact laneCommand_answers h rfl hq (fun _ => rfl) rfl (paramValue_lane s n _ .rdt (fun l => l.rdt) fun _ => rfl)

/-- Settles O16: each is a write of one field of the site's parameters. -/
theorem siteParameterWritesClamp : Obligations.SiteParameterWritesClamp := by
  intro s x v h held result
  refine ⟨?_, ?_, ?_, ?_, ?_, ?_, ?_⟩
  all_goals exact siteCommand_answers h rfl (fun u hu => by rw [← hu]; rfl) rfl

end Sys2Proof.Machine

namespace Sys2Proof.Machine

/-! ### What evidence leaves of the health records -/

theorem State.evidence_other (s : State) {i j : Strip} (f : Causes → Causes) (h : i ≠ j) :
    (s.evidence i f).shu[j] = s.shu[j] := by
  obtain e | ⟨-, -, e⟩ | ⟨-, -, e⟩ | ⟨-, -, -, e⟩ := s.evidence_cases i f
  all_goals rw [e]
  all_goals simp only [State.request_shu, State.updShu_shu, upd_get, if_neg h]

/-- Evidence of a strip that is not DISABLED sets its cause set (R163, R164). -/
theorem State.evidence_causes {s : State} {i : Strip} (f : Causes → Causes) (h : s.shu[i].state ≠ .disabled) :
    (s.evidence i f).shu[i].causes = f s.shu[i].causes := by
  by_cases hf : f s.shu[i].causes = s.shu[i].causes
  · rw [State.evidence_void (.inr hf), hf]
  · rw [State.evidence_changes (not_or.2 ⟨h, hf⟩)]
    obtain ⟨hst, hc⟩ | ⟨hst, hc⟩ | ⟨h₁, h₂⟩ :=
      (s.updShu i fun h => { h with causes := f h.causes }).reevaluate_cases i
    · rw [State.reevaluate_toSuspect hst hc, State.updShu_updShu]
      simp only [State.request_shu, State.updShu_shu, upd_same, Health.enter]
    · rw [State.reevaluate_toService hst hc, State.updShu_updShu]
      simp only [State.updShu_shu, upd_same, Health.enter]
    · rw [State.reevaluate_stays h₁ h₂]
      simp only [State.updShu_shu, upd_same]

theorem State.foldl_withdrawDrift_other (s : State) {l : List Strip} {i : Strip} (h : i ∉ l) :
    (l.foldl State.withdrawDrift s).shu[i] = s.shu[i] := by
  induction l generalizing s with
  | nil => rfl
  | cons j l ih =>
    obtain ⟨hj, hl⟩ := not_or.1 (mt List.mem_cons.2 h)
    rw [List.foldl_cons, ih _ hl]
    exact s.evidence_other _ (Ne.symm hj)

/-- A strip's own withdrawal is the only one of a walk that its health record sees. -/
theorem State.foldl_withdrawDrift_own (s : State) {l : List Strip} {i : Strip} (hl : l.Nodup) (h : i ∈ l) :
    ∃ u : State, u.shu[i] = s.shu[i] ∧ (l.foldl State.withdrawDrift s).shu[i] = (u.withdrawDrift i).shu[i] := by
  obtain ⟨a, b, rfl⟩ := List.append_of_mem h
  obtain ⟨-, hb, hab⟩ := List.nodup_append.1 hl
  have ha : i ∉ a := fun hi => hab i hi i List.mem_cons_self rfl
  have hb' : i ∉ b := (List.nodup_cons.1 hb).1
  refine ⟨a.foldl State.withdrawDrift s, s.foldl_withdrawDrift_other ha, ?_⟩
  rw [List.foldl_append, List.foldl_cons, State.foldl_withdrawDrift_other _ hb']

theorem State.foldl_withdrawDrift_cpt (s : State) (l : List Strip) (c : Cpt) :
    l.foldl State.withdrawDrift { s with cpt := c } = { l.foldl State.withdrawDrift s with cpt := c } := by
  induction l generalizing s with
  | nil => rfl
  | cons i l ih =>
    have h := s.evidence_outside i (fun c => { c with drift := false }) s.par s.scu s.apu s.cst c
    obtain ⟨-, -, hpar, hscu, -, hapu, -, -, -, hcst, -, -⟩ := s.evidence_frame i fun c => { c with drift := false }
    rw [List.foldl_cons, List.foldl_cons, ← ih]
    refine congrArg (l.foldl State.withdrawDrift) (h.trans ?_)
    rw [← hpar, ← hscu, ← hapu, ← hcst]
    rfl

theorem State.foldl_withdrawDrift_port (s : State) (l : List Strip) : (l.foldl State.withdrawDrift s).cpt = s.cpt := by
  induction l generalizing s with
  | nil => rfl
  | cons i l ih => rw [List.foldl_cons, ih]; simp [State.withdrawDrift]

/-- All strips' window changes, as moves of all channels before the withdrawals of DRIFT (R2, R5). -/
theorem State.rewindowAll_all (s : State) :
    s.rewindowAll allStrips = { s with scu := Vector.ofFn fun i => s.rewindowed i s.scu[i] } := by
  simp only [State.rewindowAll, mem_allStrips, if_true]

/-! ### AZL (R2) -/

theorem applyAzl_same {v : Int} {s : State} (h : clampNat 0 4095 v = s.par.azl) (k : Nat) : applyAzl k v s = some s := by
  simp only [applyAzl, if_pos h]

theorem applyAzl_changes {v : Int} {s : State} (h : clampNat 0 4095 v ≠ s.par.azl) (k : Nat) : applyAzl k v s =
    some (allStrips.foldl State.windowChange (s.updPar fun p => { p with azl := clampNat 0 4095 v })) := by
  simp only [applyAzl, if_neg h]

/-- The parameters and channels after a change of AZL, before the withdrawals of DRIFT (R2, R5). -/
def State.azlMoved (s : State) (a : Nat) : State :=
  (s.updPar fun p => { p with azl := a }).rewindowAll allStrips

theorem azl_answers {s : State} {x : Xfer} {v : BitVec 32} (h : s.taker x.addr = .addressed)
    (ha : clampNat 0 4095 v.toInt ≠ s.par.azl) : exec (.azl x (written 0 v)) s =
      .next (s.answered (allStrips.foldl State.withdrawDrift (s.azlMoved (clampNat 0 4095 v.toInt)))
        (xferBytes x (Param.id .azl :: written 0 v)) 0x02 .ok (valueOf .azl 0 (clampNat 0 4095 v.toInt))) := by
  refine paramCommand_answers h (by decide) rfl ?_ ?_
  · refine (applyAzl_changes (s := s.drive _) ha 0).trans ?_
    rw [State.foldl_windowChange _ allStrips_nodup, State.clocked, State.foldl_withdrawDrift_port, ← State.foldl_withdrawDrift_cpt]
    rfl
  · show ((allStrips.foldl State.withdrawDrift (s.azlMoved (clampNat 0 4095 v.toInt))).par.azl : Int) = _
    rw [State.foldl_withdrawDrift_par]
    rfl

/-- A withdrawal of DRIFT among the others sets the strip's own cause set (R164, R168). -/
theorem State.foldl_withdrawDrift_shu {s : State} {i : Strip} (h : s.shu[i].state ≠ .disabled) :
    (allStrips.foldl State.withdrawDrift s).shu[i].causes = { s.shu[i].causes with drift := false } ∧
    (s.shu[i].causes.drift = false → (allStrips.foldl State.withdrawDrift s).shu[i] = s.shu[i]) := by
  obtain ⟨u, hu, he⟩ := s.foldl_withdrawDrift_own allStrips_nodup (mem_allStrips i)
  rw [he, ← hu]
  refine ⟨State.evidence_causes _ (by rw [hu]; exact h), fun hd => ?_⟩
  have hc : { u.shu[i].causes with drift := false } = u.shu[i].causes := by rw [← hd]
  rw [State.withdrawDrift, State.evidence_void (.inr hc)]

/-- Settles O17: the sixteen window changes move the channels, and then each withdraws the DRIFT of its own strip. -/
theorem azlWriteMovesTheWindows : Obligations.AzlWriteMovesTheWindows := by
  intro s x v h a answer moved
  have hmoved : s.azlMoved a = moved := State.rewindowAll_all _
  have changed (ha : a ≠ s.par.azl) : exec (.azl x (written 0 v)) s = answer (allStrips.foldl State.withdrawDrift moved) := by
    rw [← hmoved]
    exact azl_answers h ha
  refine ⟨fun ha => ?_, changed, fun i ha hst => ?_⟩
  · exact paramCommand_answers (t := s) h (by decide) rfl (applyAzl_same (s := s.drive _) ha 0) (congrArg Nat.cast ha.symm)
  · have hshu := State.foldl_withdrawDrift_shu (s := moved) (i := i) hst
    generalize allStrips.foldl State.withdrawDrift moved = t at changed hshu
    exact ⟨_, changed ha, hshu⟩

end Sys2Proof.Machine

namespace Sys2Proof.Machine

/-! ### A change of service state (R163) -/

/-- A strip leaves its service state: both marks as R163 has them. -/
theorem Health.enter_changes {h : Health} {new : Service} (hne : new ≠ h.state) (hin : new ≠ .inService) :
    h.enter new = { h with state := new, changed := true, leftService := h.leftService || h.state = .inService } := by
  simp only [Health.enter, hne, hin, ne_eq, not_false_eq_true, decide_true, Bool.or_true, Bool.and_true]

/-- A strip comes back into service. -/
theorem Health.enter_inService {h : Health} (hne : h.state ≠ .inService) :
    h.enter .inService = { h with state := .inService, changed := true } := by
  simp only [Health.enter, hne, hne.symm, ne_eq, not_false_eq_true, decide_true, decide_false, Bool.or_true, Bool.false_and,
    Bool.or_false]

/-! ### ENABLE (R176) -/

section
variable {s : State} {i : Strip} {v : Int}

theorem applyEnable_off (h : s.shu[i].state ≠ .disabled) (hv : v ≤ 0) : applyEnable i.val v s = some (s.disable i) := by
  have hon : ¬ 0 < v := by omega
  simp only [applyEnable, Fin.ofNat_val_eq_self, h, hon, ne_eq, not_false_eq_true, decide_false, Bool.false_eq_true,
    eq_iff_iff, not_true_eq_false, if_false, false_iff]

theorem applyEnable_on (h : s.shu[i].state = .disabled) (hv : 0 < v) : applyEnable i.val v s = some (s.enable i) := by
  simp only [applyEnable, Fin.ofNat_val_eq_self, h, hv, ne_eq, not_true_eq_false, decide_true, eq_iff_iff, iff_false,
    if_true, if_false]

theorem applyEnable_same (h : (0 < v) ↔ s.shu[i].state ≠ .disabled) : applyEnable i.val v s = some s := by
  simp only [applyEnable, Fin.ofNat_val_eq_self, decide_eq_true_eq, h, if_true]

/-- The health record of a strip that enters DISABLED (R163, R176). -/
def Health.off (h : Health) : Health :=
  { h with
    state := .disabled
    causes := Causes.none
    missCount := 0
    failCount := 0
    holdoffDue := none
    changed := true
    leftService := h.leftService || h.state = .inService }

/-- What a strip's channel drops when it enters DISABLED (R19). -/
def Scu.emptied (u : Scu) : Scu :=
  { u with
    pulse := none
    standing := none
    pinned := false
    pinDue := none
    noisyLive := false
    noisyLatched := false
    noiseCount := 0
    idleWin := []
    recentWin := [] }

theorem State.disable_eq (h : s.shu[i].state ≠ .disabled) : s.disable i = s.leave i Health.off Scu.emptied := by
  have hoff : { s.shu[i].enter .disabled with causes := Causes.none, missCount := 0, failCount := 0, holdoffDue := none } =
      s.shu[i].off := by
    rw [Health.enter_changes (Ne.symm h) (by decide)]
    rfl
  exact congrArg (fun v => { (({ s with shu := v } : State).updScu i Scu.emptied) with apu := s.apu.purge i })
    (upd_congr s.shu i (f := fun h =>
      { h.enter .disabled with causes := Causes.none, missCount := 0, failCount := 0, holdoffDue := none }) (g := Health.off)
      hoff)

theorem State.enable_eq (h : s.shu[i].state = .disabled) : s.enable i = ({ s with
    shu := upd s.shu i fun h => { h with state := .inService, causes := Causes.none, missCount := 0, changed := true }
    scu := upd s.scu i fun u => { u with idleWait := 0 } } : State) := by
  have hon : { s.shu[i].enter .inService with causes := Causes.none, missCount := 0 } =
      { s.shu[i] with state := .inService, causes := Causes.none, missCount := 0, changed := true } := by
    rw [Health.enter_inService (by rw [h]; decide)]
  exact congrArg (fun v => ({ s with shu := v } : State).updScu i fun u => { u with idleWait := 0 })
    (upd_congr s.shu i (g := fun h => { h with state := .inService, causes := Causes.none, missCount := 0, changed := true }) hon)

end

theorem paramValue_enable (s : State) (i : Strip) : s.paramValue .enable i.val = bit 1 (s.shu[i].state ≠ .disabled) := by
  simp only [State.paramValue, Fin.ofNat_val_eq_self]

/-- Settles O18: a write that changes the state disables or enables the strip, and any other write changes nothing. -/
theorem enableWriteMovesTheStrip : Obligations.EnableWriteMovesTheStrip := by
  intro s x i v h hq answer
  have hquiet : s.quietFor (paramScope .enable) i.val = true := by
    simp only [paramScope, State.quietFor, Fin.ofNat_val_eq_self, hq]
  refine ⟨fun hv hst => ?_, fun hv hst => ?_, fun hv hst => ?_, fun hv hst => ?_⟩
  · refine paramCommand_answers h i.isLt hquiet ((applyEnable_off (s := s.drive _) hst hv).trans ?_) ?_
    · rw [State.disable_eq (s := s.drive _) hst]
      rfl
    · simp only [paramValue_enable, upd_same]; rfl
  · refine paramCommand_answers h i.isLt hquiet ((applyEnable_on (s := s.drive _) hst hv).trans ?_) ?_
    · rw [State.enable_eq (s := s.drive _) hst]
      rfl
    · simp only [paramValue_enable, upd_same]; rfl
  · refine paramCommand_answers (t := s) h i.isLt hquiet (applyEnable_same (s := s.drive _) ?_) ?_
    · exact ⟨fun hc => by omega, fun hc => absurd hst hc⟩
    · simp only [paramValue_enable, hst]; rfl
  · refine paramCommand_answers (t := s) h i.isLt hquiet (applyEnable_same (s := s.drive _) ?_) ?_
    · exact ⟨fun _ => hst, fun _ => hv⟩
    · rw [paramValue_enable, decide_eq_true hst]; rfl

end Sys2Proof.Machine

namespace Sys2Proof.Machine

/-! ### A command that names a strip (section 9.5) -/

theorem index_val {n : Nat} (i : Fin n) : index n i.val = some i := by simp [index]

theorem index_of_le {n k : Nat} (h : n ≤ k) : index n k = none := dif_neg (Nat.not_lt.2 h)

theorem stripCommand_named (i : Strip) (s : State) (run : Strip → Reply × State) :
    stripCommand [byte i.val] s run = run i := by
  have hi : (byte i.val).toNat = i.val := by rw [byte_toNat]; omega
  simp only [stripCommand, hi, index_val]

theorem stripCommand_bad {p : List Byte} (h : p.length ≠ 1 ∨ 15 < u8 p 0) (s : State) (run : Strip → Reply × State) :
    stripCommand p s run = refuse .badValue s := by
  match p with
  | [b] =>
    have hb : 16 ≤ b.toNat := by
      rw [u8_head] at h
      simp only [List.length_singleton] at h
      omega
    simp only [stripCommand, index_of_le hb]
  | [] | _ :: _ :: _ => rfl

/-! ### The strip commands by service state (R173 to R175) -/

section
variable {s : State} {i : Strip}

/-- The health record of a strip that the host takes out of service (R163, R170). -/
def Health.removed (h : Health) : Health :=
  { h with
    state := .outOfService
    failCount := 0
    changed := true
    leftService := h.leftService || h.state = .inService }

theorem State.takeOut_removed (h : s.shu[i].state ≠ .outOfService) : s.takeOut i = s.leave i Health.removed Scu.marked := by
  have hout : { s.shu[i].enter .outOfService with failCount := 0 } = s.shu[i].removed := by
    rw [Health.enter_changes (Ne.symm h) (by decide)]
    rfl
  exact congrArg (fun v => { (({ s with shu := v } : State).updScu i Scu.marked) with apu := s.apu.purge i })
    (upd_congr s.shu i (f := fun h => { h.enter .outOfService with failCount := 0 }) (g := Health.removed) hout)

theorem stripRemove_disabled (h : s.shu[i].state = .disabled) : stripRemove [byte i.val] s = refuse .wrongState s := by
  simp only [stripRemove, stripCommand_named, h]

theorem stripRemove_out (h : s.shu[i].state = .outOfService) :
    stripRemove [byte i.val] s = accept [byte i.val, 2] s := by
  simp only [stripRemove, stripCommand_named, h, acceptStrip, Service.code]

theorem stripRemove_inUse (h : s.shu[i].state = .inService ∨ s.shu[i].state = .suspect ∨ s.shu[i].state = .recovering) :
    stripRemove [byte i.val] s = accept [byte i.val, 2] (s.leave i Health.removed Scu.marked) := by
  have hout : s.shu[i].state ≠ .outOfService := by
    obtain h | h | h := h
    all_goals rw [h]; decide
  have hcode : (s.leave i Health.removed Scu.marked).shu[i].state.code = 2 := by
    rw [show (s.leave i Health.removed Scu.marked).shu[i] = s.shu[i].removed from upd_same _ _ _]
    rfl
  have he : stripRemove [byte i.val] s = acceptStrip i (s.takeOut i) := by
    obtain h | h | h := h
    all_goals simp only [stripRemove, stripCommand_named, h]
  rw [he, State.takeOut_removed hout, acceptStrip, hcode]

theorem stripRestore_inUse (h : s.shu[i].state ≠ .outOfService) : stripRestore [byte i.val] s = refuse .wrongState s := by
  simp only [stripRestore, stripCommand_named, ne_eq, h, not_false_eq_true, if_true]

theorem stripRestore_holdoff (h : s.shu[i].state = .outOfService) (hd : s.shu[i].holdoffDue.isSome = true) :
    stripRestore [byte i.val] s = refuse .holdoff s := by
  simp only [stripRestore, stripCommand_named, ne_eq, h, not_true_eq_false, if_false, hd, if_true]

theorem stripRestore_out (h : s.shu[i].state = .outOfService) (hd : s.shu[i].holdoffDue = none) :
    stripRestore [byte i.val] s = accept [byte i.val, 3]
      ((s.updShu i fun h => { h with state := .recovering, changed := true }).request i .recover) := by
  have henter : s.shu[i].enter .recovering = { s.shu[i] with state := .recovering, changed := true } := by
    rw [Health.enter_changes (by rw [h]; decide) (by decide)]
    simp only [h, reduceCtorEq, decide_false, Bool.or_false]
  have hupd : s.updShu i (·.enter .recovering) = s.updShu i fun h => { h with state := .recovering, changed := true } :=
    State.updShu_congr henter
  have hcode : ((s.updShu i fun h => { h with state := .recovering, changed := true }).request i .recover).shu[i].state.code =
      3 := by
    simp only [State.request_shu, State.updShu_shu, upd_same]
    rfl
  simp only [stripRestore, stripCommand_named, ne_eq, h, not_true_eq_false, if_false, hd, Option.isSome_none,
    Bool.false_eq_true, hupd, acceptStrip, hcode]

theorem stripTest_judged (h : s.shu[i].state = .inService ∨ s.shu[i].state = .suspect) :
    stripTest [byte i.val] s = accept [byte i.val, s.shu[i].state.code] (s.request i .host) := by
  obtain h | h := h
  all_goals simp only [stripTest, stripCommand_named, h, acceptStrip, State.request_shu]

theorem stripTest_refused (h₁ : s.shu[i].state ≠ .inService) (h₂ : s.shu[i].state ≠ .suspect) :
    stripTest [byte i.val] s = refuse .wrongState s := by
  simp only [stripTest, stripCommand_named]

end

/-! ### The layout of STRIP_STATUS (R57, R178) -/

theorem timeLeft_eq (due : Option Time) (now : Time) : timeLeft due now =
    match due with
    | some t => if (now - t).toNat < 2147483648 then 0 else (t - now).toNat
    | none => 0 := by
  cases due with
  | none => rfl
  | some t =>
    by_cases h : (now - t).toNat < 2147483648
    · exact (if_pos (decide_eq_true h)).trans (if_pos h).symm
    · exact (if_neg (mt of_decide_eq_true h)).trans (if_neg h).symm

/-- The test byte of a strip whose test is in flight. -/
theorem testByte_inFlight (o : Origin) (p : Phase) (last : Bool) :
    let test := byte (2 * o.rank + 8 + bit 16 (p = .read) + bit 32 last)
    test.getLsbD 5 = last ∧ test.getLsbD 6 = false ∧ test.getLsbD 7 = false ∧ test.getLsbD 0 = false ∧
      test.toNat / 2 % 4 = o.rank ∧ test.getLsbD 3 = true ∧ (test.getLsbD 4 = true ↔ p = .read) := by
  cases o <;> cases p <;> cases last <;> decide

/-- The test byte of a strip with an entry in the queue. -/
theorem testByte_queued (o : Origin) (last : Bool) :
    let test := byte (1 + 2 * o.rank + bit 32 last)
    test.getLsbD 5 = last ∧ test.getLsbD 6 = false ∧ test.getLsbD 7 = false ∧ test.getLsbD 0 = true ∧
      test.toNat / 2 % 4 = o.rank ∧ test.getLsbD 3 = false ∧ test.getLsbD 4 = false := by
  cases o <;> cases last <;> decide

/-- The test byte of a strip without an entry. -/
theorem testByte_none (last : Bool) :
    let test := byte (bit 32 last)
    test.getLsbD 5 = last ∧ test.getLsbD 6 = false ∧ test.getLsbD 7 = false ∧ test.getLsbD 0 = false ∧
      test.toNat / 2 % 4 = 0 ∧ test.getLsbD 3 = false ∧ test.getLsbD 4 = false := by
  cases last <;> decide

/-- What the test byte and the abort count of STRIP_STATUS say (R57, R178). -/
theorem testBytes_spec (m : Mcs) (i : Strip) : ∃ test aborts : Byte, testBytes m i = [test, aborts] ∧
    test.getLsbD 5 = m.strip[i].lastCode.isSome ∧ test.getLsbD 6 = false ∧ test.getLsbD 7 = false ∧
    (∀ f, m.flight = some f → f.entry.strip = i →
      test.getLsbD 0 = false ∧ test.toNat / 2 % 4 = f.entry.origin.rank ∧ test.getLsbD 3 = true ∧
      (test.getLsbD 4 = true ↔ f.phase = .read) ∧ aborts = byte f.entry.aborts) ∧
    ((∀ f, m.flight = some f → f.entry.strip ≠ i) → test.getLsbD 3 = false ∧ test.getLsbD 4 = false ∧
      (test.getLsbD 0 = true ↔ ∃ e ∈ m.queue, e.strip = i) ∧
      ((∀ e ∈ m.queue, e.strip ≠ i) → test.toNat / 2 % 4 = 0 ∧ aborts = 0) ∧
      ∀ e ∈ m.queue, e.strip = i → (∀ q ∈ m.queue, q.strip = i → q = e) →
        test.toNat / 2 % 4 = e.origin.rank ∧ aborts = byte e.aborts) := by
  cases hf : m.inFlight i with
  | some f =>
    obtain ⟨hflight, hstrip⟩ := Option.filter_eq_some_iff.1 hf
    have hstrip : f.entry.strip = i := of_decide_eq_true hstrip
    obtain ⟨h5, h6, h7, h0, horigin, h3, h4⟩ := testByte_inFlight f.entry.origin f.phase m.strip[i].lastCode.isSome
    refine ⟨_, byte f.entry.aborts, by simp only [testBytes, hf], h5, h6, h7, fun g hg _ => ?_, fun hno => absurd hstrip (hno f hflight)⟩
    obtain rfl : f = g := Option.some.inj (hflight.symm.trans hg)
    exact ⟨h0, horigin, h3, h4, rfl⟩
  | none =>
    have hother : ∀ f, m.flight = some f → f.entry.strip ≠ i := fun f hflight hstrip => by
      rw [Mcs.inFlight, hflight, Option.filter_some_pos (by simpa using hstrip)] at hf
      cases hf
    cases hq : m.queued i with
    | some e =>
      have hstrip : e.strip = i := of_decide_eq_true (List.find?_some (p := fun e : TestEntry => decide (e.strip = i)) hq)
      have hmem : e ∈ m.queue := List.mem_of_find?_eq_some hq
      obtain ⟨h5, h6, h7, h0, horigin, h3, h4⟩ := testByte_queued e.origin m.strip[i].lastCode.isSome
      refine ⟨_, byte e.aborts, by simp only [testBytes, hf, hq], h5, h6, h7, fun g hg hg' => absurd hg' (hother g hg), fun _ =>
        ⟨h3, h4, ⟨fun _ => ⟨e, hmem, hstrip⟩, fun _ => h0⟩, fun hno => absurd hstrip (hno e hmem), fun g _ _ hone => ?_⟩⟩
      obtain rfl : e = g := hone e hmem hstrip
      exact ⟨horigin, rfl⟩
    | none =>
      have hnone : ∀ e ∈ m.queue, e.strip ≠ i := fun e he => of_decide_eq_false (by simpa using List.find?_eq_none.1 hq e he)
      obtain ⟨h5, h6, h7, h0, horigin, h3, h4⟩ := testByte_none m.strip[i].lastCode.isSome
      refine ⟨_, 0, by simp only [testBytes, hf, hq], h5, h6, h7, fun g hg hg' => absurd hg' (hother g hg), fun _ =>
        ⟨h3, h4, ⟨fun h => absurd (h0.symm.trans h) (by decide), fun ⟨e, he, hs⟩ => absurd hs (hnone e he)⟩,
          fun _ => ⟨horigin, rfl⟩, fun e he hs => absurd hs (hnone e he)⟩⟩

/-- The response of STRIP_STATUS field by field (R178), from its test byte and its abort count. -/
theorem stripStatusBytes_eq (s : State) (i : Strip) {test aborts : Byte} (h : testBytes s.mcs i = [test, aborts]) :
    stripStatusBytes s i =
      [byte i.val, s.shu[i].state.code, s.shu[i].causes.toByte,
        byte (bit 1 s.shu[i].leftService + bit 2 s.shu[i].changed + bit 4 s.scu[i].noisyLive + bit 8 s.scu[i].noisyLatched +
          bit 16 s.scu[i].standing.isSome + bit 32 s.scu[i].pinned), byte s.shu[i].missCount, byte s.shu[i].failCount] ++
      bytes2 ((timeLeft s.shu[i].holdoffDue s.siteTime + 15999) / 16000) ++ signed2 s.scu[i].base ++
      [s.scu[i].conn.code, test, aborts] ++ bytes2 (s.mcs.strip[i].lastCode.getD 0) := by
  rw [stripStatusBytes, h]
  simp only [List.append_assoc, List.cons_append, List.nil_append]

theorem stripStatus_named (i : Strip) (s : State) : stripStatus [byte i.val] s = accept (stripStatusBytes s i)
    ({ s with
      shu := upd s.shu i fun h => { h with leftService := false, changed := false }
      scu := upd s.scu i fun u => { u with noisyLatched := false } }) :=
  stripCommand_named i s _

/-- Settles O51: one answer lemma per command and service state, and the test byte by what the MCS holds of the strip. -/
theorem stripCommandsActOnTheStrip : Obligations.StripCommandsActOnTheStrip := by
  intro s x i h strip u n answer refused
  refine ⟨fun hd => ?_, fun ho => ?_, fun hu => ?_, fun hu => ?_, fun ho hd => ?_, fun ho hd => ?_, fun hi => ?_, fun hi => ?_,
    fun h₁ h₂ => ?_, ?_, ?_, fun p hp => ⟨?_, ?_, ?_, ?_⟩⟩
  · exact addressedCommand_refuses h (stripRemove_disabled (s := s.drive _) hd)
  · exact addressedCommand_answers h (stripRemove_out (s := s.drive _) ho)
  · exact addressedCommand_answers h (stripRemove_inUse (s := s.drive _) hu)
  · exact addressedCommand_refuses h (stripRestore_inUse (s := s.drive _) hu)
  · exact addressedCommand_refuses h (stripRestore_holdoff (s := s.drive _) ho hd)
  · exact addressedCommand_answers h (stripRestore_out (s := s.drive _) ho hd)
  · exact addressedCommand_answers h ((stripTest_judged (s := s.drive _) (.inl hi)).trans (by rw [show (s.drive _).shu[i].state = .inService from hi]; rfl))
  · exact addressedCommand_answers h ((stripTest_judged (s := s.drive _) (.inr hi)).trans (by rw [show (s.drive _).shu[i].state = .suspect from hi]; rfl))
  · exact addressedCommand_refuses h (stripTest_refused (s := s.drive _) h₁ h₂)
  · exact addressedCommand_answers h (stripStatus_named i (s.drive _))
  · obtain ⟨test, aborts, hbytes, hspec⟩ := testBytes_spec s.mcs i
    refine ⟨test, aborts, ?_, hspec⟩
    rw [stripStatusBytes_eq s i hbytes, timeLeft_eq]
    rfl
  · exact addressedCommand_refuses h (stripCommand_bad hp _ _)
  · exact addressedCommand_refuses h (stripCommand_bad hp _ _)
  · exact addressedCommand_refuses h (stripCommand_bad hp _ _)
  · exact addressedCommand_refuses h (stripCommand_bad hp _ _)

end Sys2Proof.Machine

namespace Sys2Proof.Machine

/-! ### The traffic reset (R211) -/

/-- The idle wait starts afresh exactly if the strip had a pulse or was standing (R22). -/
theorem Scu.trafficReset_eq : Scu.trafficReset = fun u : Scu =>
    { u with
      pulse := none
      standing := none
      idleWait := if u.pulse = none ∧ u.standing = none then u.idleWait else 0 } := by
  funext u
  simp only [Scu.trafficReset]
  cases u.pulse with
  | none => cases u.standing with
    | none => rfl
    | some _ => rfl
  | some _ => rfl

/-- The part without traffic, its test work aside (R22, R59, R82, R122, R148, R181). -/
def State.withoutTraffic (s : State) : State :=
  { s with
    scu := mapAll s.scu Scu.trafficReset
    mcs := { s.mcs with queue := [] }
    apu := s.apu.trafficReset
    vau := s.vau.trafficReset
    vrt := s.vrt.trafficReset
    shu := mapAll s.shu fun h => { h with missCount := 0 } }

/-- The part after the abort of the test in flight, whose slot runs on with no work (R55, R56). -/
def State.testAborted (s : State) (f : Flight) : State :=
  { s with
    scu := upd s.scu f.entry.strip fun u => { u with conn := .settling 0 }
    mcs := { s.mcs with
      flight := none
      work := .stopped
      strip := upd s.mcs.strip f.entry.strip fun t => { t with aborted := min (t.aborted + 1) 65535 } } }

theorem State.trafficReset_idle {s : State} (h : s.mcs.flight = none) : s.trafficReset = s.withoutTraffic := by
  have hdrop : s.dropTests = { s with mcs := { s.mcs with queue := [] } } := by simp only [State.dropTests, h]
  rw [State.trafficReset, hdrop]
  rfl

/-- The aborted entry's place in the queue does not show, because the queue is emptied (R59). -/
theorem State.trafficReset_inFlight {s : State} {f : Flight} (h : s.mcs.flight = some f) :
    s.trafficReset = (s.testAborted f).withoutTraffic := by
  have hdrop : s.dropTests = { s.testAborted f with mcs := { (s.testAborted f).mcs with queue := [] } } := by
    simp only [State.dropTests, h]
    rfl
  rw [State.trafficReset, hdrop]
  rfl

theorem trafficReset_empty (s : State) : trafficReset [] s = accept (bytes2 s.vrt.counter) s.trafficReset := by
  simp only [trafficReset, whenEmpty, if_true]

theorem trafficReset_bad {p : List Byte} (h : p ≠ []) (s : State) : trafficReset p s = refuse .badValue s := by
  simp only [trafficReset, whenEmpty, if_neg h]

/-- Settles O12: with the test in flight aborted first, one and the same clearing of every block. -/
theorem trafficResetClearsTraffic : Obligations.TrafficResetClearsTraffic := by
  intro s x h cleared
  have hcleared (t : State) : cleared t = t.withoutTraffic := by
    rw [State.withoutTraffic, Scu.trafficReset_eq]
    rfl
  refine ⟨fun hf => ?_, fun f hf => ?_, fun p hp => ?_⟩
  · rw [hcleared]
    refine addressedCommand_answers h ((trafficReset_empty _).trans ?_)
    rw [State.trafficReset_idle (s := s.drive _) hf]
    rfl
  · rw [hcleared]
    refine addressedCommand_answers (t := (s.testAborted f).withoutTraffic) h ((trafficReset_empty _).trans ?_)
    rw [State.trafficReset_inFlight (s := s.drive _) hf]
    rfl
  · exact addressedCommand_refuses h (trafficReset_bad hp _)

end Sys2Proof.Machine

namespace Sys2Proof.Machine

/-! ### What a sample of a strip is taken as (R1) -/

theorem pushWindow_eq (w : List Int) (x : Int) : pushWindow w x = newest64 (w ++ [x]) := by
  simp only [pushWindow, newest64, List.length_append, List.length_singleton, Config.windowSize]

/-- The state after the recent-sample window has taken a sample (R3). -/
def State.pushed (s : State) (i : Strip) (code : BitVec 16) : State :=
  s.updScu i fun u => { u with recentWin := newest64 (u.recentWin ++ [code.toInt]) }

theorem State.updScu_congr {s : State} {i : Strip} {f g : Scu → Scu} (h : f s.scu[i] = g s.scu[i]) :
    s.updScu i f = s.updScu i g := by
  simp only [State.updScu, upd_congr s.scu i h]

section
variable {s : State} {i : Strip} {code : BitVec 16}

theorem State.pushed_updScu (f : Scu → Scu) : (s.pushed i code).updScu i f = s.sampled i code f :=
  State.updScu_updScu s i _ f

/-- Channel moves that agree on the strip as the sample finds it give the same state. -/
theorem State.sampled_congr {f g : Scu → Scu}
    (h : ∀ w, f { s.scu[i] with recentWin := w } = g { s.scu[i] with recentWin := w }) : s.sampled i code f = s.sampled i code g :=
  State.updScu_congr (s := s) (f := fun u => f { u with recentWin := newest64 (u.recentWin ++ [code.toInt]) })
    (g := fun u => g { u with recentWin := newest64 (u.recentWin ++ [code.toInt]) }) (h _)

theorem State.pushed_channel : (s.pushed i code).scu[i] =
    { s.scu[i] with recentWin := newest64 (s.scu[i].recentWin ++ [code.toInt]) } := upd_same s.scu i _

theorem State.processes_iff : s.processes i = true ↔
    s.loaded = true ∧ s.scu[i].conn = .connected ∧ s.shu[i].state ≠ .disabled := by
  simp only [State.processes, Bool.and_eq_true, decide_eq_true_eq, and_assoc]

theorem State.processes_settling {k : Nat} (h : s.scu[i].conn = .settling k) : s.processes i = false := by
  rw [Bool.eq_false_iff, ne_eq, State.processes_iff, h]
  rintro ⟨-, hconn, -⟩
  cases hconn

/-- A sample at an even site time is taken. -/
theorem execSample_even (h : s.siteTime.toNat % 2 = 0) : exec (.sample i code) s = .next (s.takeSample i code) :=
  congrArg Host.Outcome.next (if_pos (decide_eq_true h))

theorem State.takeSample_ignored (h : s.loaded = false ∨ s.scu[i].conn = .underTest ∨ s.shu[i].state = .disabled)
    (hset : ∀ k, s.scu[i].conn ≠ .settling k) : s.takeSample i code = s := by
  have hproc : s.processes i = false := by
    rw [Bool.eq_false_iff, ne_eq, State.processes_iff]
    rintro ⟨hloaded, hconn, hstate⟩
    obtain h | h | h := h
    · exact absurd (hloaded.symm.trans h) nofun
    · exact absurd (hconn.symm.trans h) nofun
    · exact hstate h
  simp only [State.takeSample, hproc, Bool.false_eq_true, if_false]

/-- A sample of a strip in SETTLING is not processed (R16). -/
theorem State.takeSample_settling {k : Nat} (h : s.scu[i].conn = .settling k) : s.takeSample i code = s.settlingSample i k := by
  simp only [State.takeSample, State.processes_settling h, h, Bool.false_eq_true, if_false]

theorem State.sampleKind_settling {k : Nat} (h : s.scu[i].conn = .settling k) (hk : 199 ≤ k) :
    s.sampleKind i code = .settlingEnd := by
  have hfull : Config.settlingTotal ≤ k + 1 := Nat.succ_le_succ hk
  simp only [State.sampleKind, State.processes_settling h, h, Bool.false_eq_true, if_false, if_pos hfull]

variable (h : s.heard i)
include h

theorem State.heard.processes : s.processes i = true :=
  State.processes_iff.2 h.2

theorem State.takeSample_pulse {p : PulseCtx} (hp : s.scu[i].pulse = some p) :
    s.takeSample i code = (s.pushed i code).pulseSample i p (s.dev i code) (atLimit code) := by
  have hpush : (s.pushed i code).scu[i].pulse = some p := by rw [State.pushed_channel]; exact hp
  rw [State.pushed] at hpush ⊢
  simp only [State.takeSample, h.processes, if_true, pushWindow_eq, sampleCode, hpush]
  rfl

theorem State.takeSample_standing {st : Standing} (hp : s.scu[i].pulse = none) (hst : s.scu[i].standing = some st) :
    s.takeSample i code = (s.pushed i code).standingSample i st (s.dev i code) := by
  have hpush : (s.pushed i code).scu[i].pulse = none := by rw [State.pushed_channel]; exact hp
  have hpush' : (s.pushed i code).scu[i].standing = some st := by rw [State.pushed_channel]; exact hst
  rw [State.pushed] at hpush hpush' ⊢
  simp only [State.takeSample, h.processes, if_true, pushWindow_eq, sampleCode, hpush, hpush']
  rfl

theorem State.takeSample_rest (hp : s.scu[i].pulse = none) (hst : s.scu[i].standing = none) :
    s.takeSample i code = (s.pushed i code).restSample i code.toInt (s.dev i code) (atLimit code) := by
  have hpush : (s.pushed i code).scu[i].pulse = none := by rw [State.pushed_channel]; exact hp
  have hpush' : (s.pushed i code).scu[i].standing = none := by rw [State.pushed_channel]; exact hst
  rw [State.pushed] at hpush hpush' ⊢
  simp only [State.takeSample, h.processes, if_true, pushWindow_eq, sampleCode, hpush, hpush']
  rfl

/-- The outcome of a sample of a pulse in progress (R9, R11). -/
theorem State.sampleKind_pulse {p q : PulseCtx} (hp : s.scu[i].pulse = some p)
    (hq : p.extend s.par.lane[laneOf i].tOff s.siteTime (s.dev i code) (atLimit code) = q) :
    s.sampleKind i code = if q.ended then .normalEnd else if q.cut then .longCut else .plain := by
  simp only [State.sampleKind, h.processes, if_true, hp, ← hq]
  rfl

/-- The fourth sample of a standing end run (R12). -/
theorem State.sampleKind_standing {st : Standing} (hp : s.scu[i].pulse = none) (hst : s.scu[i].standing = some st)
    (hrun : 3 ≤ st.endRun) (hd : s.dev i code < s.par.lane[laneOf i].tOff) : s.sampleKind i code = .standingEnd := by
  simp only [State.sampleKind, h.processes, if_true, hp, hst]
  exact if_pos ⟨hd, Nat.succ_le_succ hrun⟩

end

/-! ### A sample that starts and ends nothing (R3, R8, R12, R14) -/

section
variable {p : PulseCtx} {off : Nat} {now : Time} {d : Int} {clip : Bool}

theorem PulseCtx.extend_join (h : (off : Int) ≤ d) : p.extend off now d clip = p.join now d clip := if_pos h

theorem PulseCtx.extend_hold (h : d < off) : p.extend off now d clip = p.hold d clip := if_neg (not_le.2 h)

theorem PulseCtx.join_not_ended : (p.join now d clip).ended = false := rfl

theorem PulseCtx.hold_not_ended (h : p.pend.length < 3) : (p.hold d clip).ended = false :=
  decide_eq_false (by simp only [PulseCtx.hold, List.length_append, List.length_singleton]; omega)

theorem PulseCtx.hold_ended (h : p.pend.length = 3) : (p.hold d clip).ended = true :=
  decide_eq_true (by simp only [PulseCtx.hold, List.length_append, List.length_singleton]; omega)

theorem PulseCtx.cut_eq {q : PulseCtx} (h : q.ended = false) : q.cut = decide (4000 ≤ q.total) := by
  simp only [PulseCtx.cut, h, Bool.not_false, Bool.true_and, Config.longTotal]

end

section
variable {s : State} {i : Strip} {p q : PulseCtx} {d : Int} {clip : Bool}

theorem State.pulseSample_plain (hq : p.extend s.par.lane[laneOf i].tOff s.siteTime d clip = q) (he : q.ended = false)
    (hn : q.total < 4000) : s.pulseSample i p d clip = s.updScu i fun u => { u with pulse := some q } := by
  have hcut : q.cut = false := by rw [PulseCtx.cut_eq he]; exact decide_eq_false (by omega)
  simp only [State.pulseSample, hq, he, hcut, Bool.false_eq_true, if_false]

theorem State.pulseSample_ends (hq : p.extend s.par.lane[laneOf i].tOff s.siteTime d clip = q) (he : q.ended = true) :
    s.pulseSample i p d clip = s.normalEnd i q := by
  simp only [State.pulseSample, hq, he, if_true]

theorem State.pulseSample_cuts (hq : p.extend s.par.lane[laneOf i].tOff s.siteTime d clip = q) (he : q.ended = false)
    (hn : 4000 ≤ q.total) : s.pulseSample i p d clip = s.longCut i q := by
  have hcut : q.cut = true := by rw [PulseCtx.cut_eq he]; exact decide_eq_true hn
  simp only [State.pulseSample, hq, he, hcut, Bool.false_eq_true, if_false, if_true]

theorem State.standingSample_high {st : Standing} (h : s.par.lane[laneOf i].tOff ≤ d) :
    s.standingSample i st d = s.updScu i fun u => { u with standing := some { st with endRun := 0 } } := if_pos h

theorem State.standingSample_low {st : Standing} (h : d < s.par.lane[laneOf i].tOff) (hrun : st.endRun < 3) :
    s.standingSample i st d = s.updScu i fun u => { u with standing := some { st with endRun := st.endRun + 1 } } :=
  (if_neg (not_le.2 h)).trans (if_pos (by omega))

theorem State.standingSample_ends {st : Standing} (h : d < s.par.lane[laneOf i].tOff) (hrun : 3 ≤ st.endRun) :
    s.standingSample i st d = s.updScu i fun u => { u with standing := none, idleWait := 0 } :=
  (if_neg (not_le.2 h)).trans (if_neg (by omega))

theorem State.restSample_low {x : Int} (h : d < s.par.lane[laneOf i].tOn) : s.restSample i x d clip =
    s.updScu i fun u => u.rested (s.idleStrip i) s.par.lane[laneOf i].nb x d := by
  rw [State.restSample_eq]
  exact if_neg (not_le.2 h)

theorem State.restSample_start {x : Int} (h : s.par.lane[laneOf i].tOn ≤ d) : s.restSample i x d clip =
    (s.updScu i (s.opened i d clip)).pulseStart (laneOf i) := by
  rw [State.restSample_eq]
  exact if_pos h

end

/-- A sample of a strip whose idle wait still runs (R3). -/
theorem Scu.rested_waiting {u : Scu} (h : u.idleWait < 1600) (nb : Nat) (x d : Int) :
    u.rested false nb x d = { u with idleWait := u.idleWait + 1 } := by
  have hwait : advanceWait u.idleWait = u.idleWait + 1 := Nat.min_eq_left (by simp only [Config.idleWaitFull]; omega)
  simp only [Scu.rested, Bool.false_eq_true, if_false, hwait]

/-- An idle sample enters the window and is tested as a noise sample (R3, R14). -/
theorem Scu.rested_idle {u : Scu} (h : u.idleWait = 1600) (nb : Nat) (x d : Int) : u.rested true nb x d =
    { u with
      idleWin := newest64 (u.idleWin ++ [x])
      noises := if nb ≤ d.natAbs then min (u.noises + 1) 65535 else u.noises
      noiseCount := if nb ≤ d.natAbs then min (u.noiseCount + 1) 8000 else u.noiseCount } := by
  have habs : ((nb : Int) ≤ |d|) = (nb ≤ d.natAbs) := by
    rw [Int.abs_eq_natAbs, Nat.cast_le]
  have hwait : advanceWait 1600 = 1600 := rfl
  simp only [Scu.rested, if_true, Scu.idleSample, pushWindow_eq, habs]
  split
  · simp only [h, hwait]; rfl
  · simp only [h, hwait]

theorem State.idleStrip_iff {s : State} {i : Strip} : s.idleStrip i = true ↔
    s.scu[i].conn = .connected ∧ s.shu[i].state ≠ .disabled ∧ s.scu[i].pulse = none ∧ s.scu[i].standing = none ∧
      s.scu[i].idleWait = 1600 := by
  simp only [State.idleStrip, Bool.and_eq_true, decide_eq_true_eq, Option.isNone_iff_eq_none, Config.idleWaitFull, and_assoc]

/-- Settles O24: a sample is taken as one of the pulse, of the standing load, or of the strip at rest. -/
theorem samplesMoveTheirChannel : Obligations.SamplesMoveTheirChannel := by
  intro s i code
  dsimp only
  refine ⟨fun h hset => ?_, fun h hp hst hlow hw => ?_, fun h hp hst hlow hw => ?_, fun p hp h hoff hn => ?_,
    fun p hp h hoff hn hpend => ?_, fun st hst h hp hoff => ?_, fun st hst h hp hoff hrun => ?_⟩
  · by_cases he : s.siteTime.toNat % 2 = 0
    · rw [execSample_even he, State.takeSample_ignored h hset]
    · exact congrArg Host.Outcome.next (if_neg (by simpa [State.sampleTime] using he))
  · have hidle : (s.pushed i code).idleStrip i = false := by
      rw [Bool.eq_false_iff, ne_eq, State.idleStrip_iff, State.pushed_channel]
      rintro ⟨-, -, -, -, hfull⟩
      exact absurd hfull (by show s.scu[i].idleWait ≠ 1600; omega)
    rw [execSample_even h.1, State.takeSample_rest h hp hst, State.restSample_low (s := s.pushed i code) hlow, hidle,
      State.pushed_updScu]
    exact congrArg _ (State.sampled_congr fun w => Scu.rested_waiting (u := { s.scu[i] with recentWin := w }) hw _ _ _)
  · have hidle : (s.pushed i code).idleStrip i = true := by
      rw [State.idleStrip_iff, State.pushed_channel]
      exact ⟨h.2.2.1, h.2.2.2, hp, hst, hw⟩
    rw [execSample_even h.1, State.takeSample_rest h hp hst, State.restSample_low (s := s.pushed i code) hlow, hidle,
      State.pushed_updScu]
    exact congrArg _ (State.sampled_congr fun w => Scu.rested_idle (u := { s.scu[i] with recentWin := w }) hw _ _ _)
  · rw [execSample_even h.1, State.takeSample_pulse h hp,
      State.pulseSample_plain (s := s.pushed i code) (PulseCtx.extend_join hoff) PulseCtx.join_not_ended (Nat.succ_lt_succ hn),
      State.pushed_updScu]
    rfl
  · rw [execSample_even h.1, State.takeSample_pulse h hp,
      State.pulseSample_plain (s := s.pushed i code) (PulseCtx.extend_hold hoff) (PulseCtx.hold_not_ended hpend)
        (Nat.succ_lt_succ hn),
      State.pushed_updScu]
    rfl
  · rw [execSample_even h.1, State.takeSample_standing h hp hst, State.standingSample_high (s := s.pushed i code) hoff,
      State.pushed_updScu]
  · rw [execSample_even h.1, State.takeSample_standing h hp hst, State.standingSample_low (s := s.pushed i code) hoff hrun,
      State.pushed_updScu]

end Sys2Proof.Machine

namespace Sys2Proof.Machine

/-! ### A pulse starts (R7, R55) -/

section
variable {s : State} {n : Lane}

theorem State.pulseStart_noTest (h : s.mcs.flight = none) : s.pulseStart n = s := by simp only [State.pulseStart, h]

theorem State.pulseStart_elsewhere {f : Flight} (h : s.mcs.flight = some f) (hn : laneOf f.entry.strip ≠ n) :
    s.pulseStart n = s := by
  simp only [State.pulseStart, h, if_neg hn]

/-- A pulse start on the lane of the test in flight abandons the test, and its slot runs on with no work (R55). -/
theorem State.pulseStart_abandons {f : Flight} (h : s.mcs.flight = some f) (hn : laneOf f.entry.strip = n) :
    s.pulseStart n = (s.abortTest f).setWork .stopped := by
  simp only [State.pulseStart, h, hn, if_true]
  rfl

end

/-- Settles O25: the starting sample opens the context, and then the MCS meets the pulse start. -/
theorem sampleStartsAPulse : Obligations.SampleStartsAPulse := by
  intro s i code h hp hst hon started
  have hstart : exec (.sample i code) s = .next (started.pulseStart (laneOf i)) := by
    rw [execSample_even h.1, State.takeSample_rest h hp hst, State.restSample_start (s := s.pushed i code) hon,
      State.pushed_updScu]
    rfl
  refine ⟨fun hf => ?_, fun f hf hn => ?_, fun f hf hn => ?_⟩
  · rw [hstart, State.pulseStart_noTest (s := started) hf]
  · rw [hstart, State.pulseStart_elsewhere (s := started) hf hn]
  · rw [hstart, State.pulseStart_abandons (s := started) hf hn]
    rfl

/-! ### A pulse ends (R9, R11) -/

/-- A row of a sample outcome takes the sample that has this outcome. -/
theorem State.sampleRow_eq {s : State} {i : Strip} {code : BitVec 16} {kind : SampleKind} (he : s.siteTime.toNat % 2 = 0)
    (hk : s.sampleKind i code = kind) : s.sampleRow kind i code = s.takeSample i code :=
  if_pos ⟨decide_eq_true he, hk⟩

section
variable {s : State} {i : Strip} {code : BitVec 16} {p q : PulseCtx} (hp : s.scu[i].pulse = some p) (h : s.heard i)
  (hq : p.extend s.par.lane[laneOf i].tOff s.siteTime (s.dev i code) (atLimit code) = q)
include hp h hq

/-- The fourth sample of an end run, as SAMPLE and as NORMAL_END. -/
theorem execNormalEnd_eq (he : q.ended = true) : exec (.normalEnd i code) s = .next ((s.pushed i code).normalEnd i q) ∧
    exec (.sample i code) s = .next ((s.pushed i code).normalEnd i q) := by
  have ht : s.takeSample i code = (s.pushed i code).normalEnd i q := by
    rw [State.takeSample_pulse h hp]
    exact State.pulseSample_ends hq he
  refine ⟨?_, by rw [execSample_even h.1, ht]⟩
  rw [← ht]
  refine congrArg Host.Outcome.next (State.sampleRow_eq h.1 ?_)
  rw [State.sampleKind_pulse h hp hq, he, if_pos rfl]

/-- The 4000th sample of a pulse that it does not end, as SAMPLE and as LONG_CUT. -/
theorem execLongCut_eq (he : q.ended = false) (hn : 4000 ≤ q.total) :
    exec (.longCut i code) s = .next ((s.pushed i code).longCut i q) ∧
    exec (.sample i code) s = .next ((s.pushed i code).longCut i q) := by
  have ht : s.takeSample i code = (s.pushed i code).longCut i q := by
    rw [State.takeSample_pulse h hp]
    exact State.pulseSample_cuts hq he hn
  refine ⟨?_, by rw [execSample_even h.1, ht]⟩
  rw [← ht]
  refine congrArg Host.Outcome.next (State.sampleRow_eq h.1 ?_)
  rw [State.sampleKind_pulse h hp hq, he, PulseCtx.cut_eq he, decide_eq_true hn]
  rfl

end

/-- Settles O26: the pulse's context after the sample decides its end, and the end is one channel move, the report and the gate. -/
theorem pulseEndsGiveTheirRecords : Obligations.PulseEndsGiveTheirRecords := by
  intro s i code p hp h d off record ended gate cut
  have hcut (q : PulseCtx) (hdis : q.discard = p.discard) :
      (s.pushed i code).longCut i q = gate (ended q true (some { endRun := q.pend.length, due := s.siteTime + 960000 }))
        (record q true) := by
    rw [State.longCut, State.pushed_updScu, hdis]
    rfl
  refine ⟨fun hd hpend hst => ?_, fun hd hn => ?_, fun hd hn hpend => ?_⟩
  · have hend : (s.pushed i code).normalEnd i (p.hold (s.dev i code) (atLimit code)) =
        gate ((ended p false none).evidence i fun c => { c with standing := false }) (record p false) := by
      have hmove : s.sampled i code (fun u => u.endPulse s.siteTime (record p false)) = ended p false none :=
        State.sampled_congr fun w => by
          simp only [Scu.endPulse, hst]
          rfl
      rw [← hmove, ← State.pushed_updScu]
      rfl
    rw [← hend]
    exact execNormalEnd_eq hp h (PulseCtx.extend_hold hd) (PulseCtx.hold_ended hpend)
  · have he := execLongCut_eq hp h (PulseCtx.extend_join hd) PulseCtx.join_not_ended (Nat.succ_le_succ hn)
    rw [hcut (p.join s.siteTime (s.dev i code) (atLimit code)) rfl] at he
    exact he
  · have he := execLongCut_eq hp h (PulseCtx.extend_hold hd) (PulseCtx.hold_not_ended hpend) (Nat.succ_le_succ hn)
    rw [hcut (p.hold (s.dev i code) (atLimit code)) rfl,
      show (p.hold (s.dev i code) (atLimit code)).pend.length = p.pend.length + 1 from List.length_append] at he
    exact he

/-! ### The standing and the settling end (R12, R16) -/

section
variable {s : State} {i : Strip} {k : Nat}

theorem State.settlingSample_counts (h : k < 199) :
    s.settlingSample i k = s.updScu i fun u => { u with conn := .settling (k + 1) } :=
  if_pos (Nat.succ_lt_succ h)

theorem State.settlingSample_ends (h : 199 ≤ k) : s.settlingSample i k = s.updScu i fun u =>
    { u with
      conn := .connected
      disturb := u.disturb.map fun d => { d with stop := some s.siteTime }
      idleWait := 0 } :=
  if_neg (Nat.not_lt.2 (Nat.succ_le_succ h))

end

/-- Settles O27: each ending sample is taken by its row and by SAMPLE alike. -/
theorem standingAndSettlingEnd : Obligations.StandingAndSettlingEnd := by
  intro s i code
  refine ⟨fun st hst h hp hrun hd => ?_, fun k hk he hn => ?_, fun k hk he hn => ?_⟩
  · have ht : s.takeSample i code = s.sampled i code fun u => { u with standing := none, idleWait := 0 } := by
      rw [State.takeSample_standing h hp hst, State.standingSample_ends (s := s.pushed i code) hd hrun, State.pushed_updScu]
    refine ⟨?_, by rw [execSample_even h.1, ht]⟩
    rw [← ht]
    exact congrArg Host.Outcome.next (State.sampleRow_eq h.1 (State.sampleKind_standing h hp hst hrun hd))
  · rw [execSample_even he, State.takeSample_settling hk, State.settlingSample_counts hn]
    rfl
  · have ht := (State.takeSample_settling (code := code) hk).trans (State.settlingSample_ends hn)
    refine ⟨?_, by rw [execSample_even he, ht]; rfl⟩
    exact congrArg Host.Outcome.next ((State.sampleRow_eq he (State.sampleKind_settling hk hn)).trans ht)

end Sys2Proof.Machine

namespace Sys2Proof.Machine

/-! ### The auto-zero step (R4, R5) -/

/-- A timer that runs and whose moment has come. -/
theorem expired_iff {t : Option Time} {now : Time} : expired t now = true ↔ due t now := by
  cases t with
  | none => simp [expired, due]
  | some v => exact decide_eq_true_iff.trans ⟨fun h => ⟨v, rfl, h⟩, fun ⟨_, he, h⟩ => by cases he; exact h⟩

/-- A step up shortens the distance to z exactly from below it. -/
theorem abs_succ_sub_lt {b z : Int} : |b + 1 - z| < |b - z| ↔ b < z := by
  simp only [Int.abs_eq_natAbs]
  omega

/-- A step down shortens the distance to z exactly from above it. -/
theorem abs_pred_sub_lt {b z : Int} : |b - 1 - z| < |b - z| ↔ z < b := by
  simp only [Int.abs_eq_natAbs]
  omega

section
variable {s : State} {i : Strip} {b : Int}

theorem State.autoZero_stays (h : s.azTarget i = s.scu[i].base) : s.autoZero i = s := by
  rw [State.autoZero_eq, if_pos h]

/-- The target of a step lies in the strip's window (R2). -/
abbrev State.inWindow (s : State) (i : Strip) (b : Int) : Prop :=
  windowLow s.par.azl s.cst.working.strip[i].z ≤ b ∧ b ≤ windowHigh s.par.azl s.cst.working.strip[i].z

/-- A step that does not shorten the distance to Z (R4). -/
theorem State.autoZero_outward (ht : s.azTarget i = b) (hne : b ≠ s.scu[i].base) (hw : s.inWindow i b)
    (hz : ¬ |b - s.cst.working.strip[i].z| < |s.scu[i].base - s.cst.working.strip[i].z|) :
    s.autoZero i = s.updScu i fun u => { u with base := b } := by
  subst ht
  rw [State.autoZero_eq, if_neg hne, if_pos hw, if_neg hz]

/-- A step toward Z clears the pinned state and withdraws DRIFT (R5). -/
theorem State.autoZero_inward (ht : s.azTarget i = b) (hne : b ≠ s.scu[i].base) (hw : s.inWindow i b)
    (hz : |b - s.cst.working.strip[i].z| < |s.scu[i].base - s.cst.working.strip[i].z|) :
    s.autoZero i = (s.updScu i fun u => { u with base := b, pinned := false, pinDue := none }).withdrawDrift i := by
  subst ht
  rw [State.autoZero_eq, if_neg hne, if_pos hw, if_pos hz, State.clearPinned, State.updScu_updScu]
  rfl

/-- A blocked step of a strip that is pinned already (R5). -/
theorem State.autoZero_pinned (ht : s.azTarget i = b) (hne : b ≠ s.scu[i].base) (hw : ¬ s.inWindow i b)
    (hp : s.scu[i].pinned = true) : s.autoZero i = s := by
  subst ht
  rw [State.autoZero_eq, if_neg hne, if_neg hw, if_pos hp]

/-- A blocked step pins the strip (R5). -/
theorem State.autoZero_pins (ht : s.azTarget i = b) (hne : b ≠ s.scu[i].base) (hw : ¬ s.inWindow i b)
    (hp : s.scu[i].pinned = false) :
    s.autoZero i = s.updScu i fun u => { u with pinned := true, pinDue := some (s.siteTime + 2880000) } := by
  subst ht
  rw [State.autoZero_eq, if_neg hne, if_neg hw, if_neg (by rw [hp]; decide)]
  rfl

/-- The next auto-zero period starts (R4). -/
def State.azRestarted (s : State) (i : Strip) : State :=
  s.updScu i fun u => { u with azDue := some (s.siteTime + BitVec.ofNat 32 (s.par.azStep * 160)) }

theorem State.azRestarted_channel : (s.azRestarted i).scu[i] =
    { s.scu[i] with azDue := some (s.siteTime + BitVec.ofNat 32 (s.par.azStep * 160)) } := upd_same s.scu i _

theorem State.azRestarted_updScu (f : Scu → Scu) : (s.azRestarted i).updScu i f = s.updScu i fun u =>
    f { u with azDue := some (s.siteTime + BitVec.ofNat 32 (s.par.azStep * 160)) } := State.updScu_updScu s i _ f

/-- The step that the idle mean asks for, at the restarted period (R4). -/
theorem State.azTarget_azRestarted : (s.azRestarted i).azTarget i = s.azTarget i := by
  simp only [State.azTarget, State.azRestarted_channel]
  rfl

theorem State.azTarget_up (h : s.scu[i].base + s.par.azTol < windowMean s.scu[i].idleWin) :
    s.azTarget i = s.scu[i].base + 1 := if_pos h

theorem State.azTarget_down (h : windowMean s.scu[i].idleWin < s.scu[i].base - s.par.azTol) :
    s.azTarget i = s.scu[i].base - 1 := (if_neg (by omega)).trans (if_pos h)

theorem State.azTarget_none (h₁ : s.scu[i].base - s.par.azTol ≤ windowMean s.scu[i].idleWin)
    (h₂ : windowMean s.scu[i].idleWin ≤ s.scu[i].base + s.par.azTol) : s.azTarget i = s.scu[i].base :=
  (if_neg (by omega)).trans (if_neg (by omega))

/-- An expiry of a strip that is idle with a full window. -/
theorem execAutoZeroStep_idle (hd : due s.scu[i].azDue s.siteTime) (h : s.idleStrip i = true)
    (hw : s.scu[i].idleWin.length = 64) : exec (.autoZeroStep i) s = .next ((s.azRestarted i).autoZero i) :=
  congrArg Host.Outcome.next ((if_pos (expired_iff.2 hd)).trans (if_pos ⟨h, hw⟩))

/-- An expiry of a strip that is not. -/
theorem execAutoZeroStep_busy (hd : due s.scu[i].azDue s.siteTime)
    (h : ¬ (s.idleStrip i = true ∧ s.scu[i].idleWin.length = 64)) : exec (.autoZeroStep i) s = .next (s.azRestarted i) :=
  congrArg Host.Outcome.next ((if_pos (expired_iff.2 hd)).trans (if_neg h))

end

/-- Settles O28: the period restarts, and the step's target decides the rest. -/
theorem autoZeroMovesOneCode : Obligations.AutoZeroMovesOneCode := by
  intro s i hd u z low high m moved inward idle
  have hbase : (s.azRestarted i).scu[i].base = u.base := by rw [State.azRestarted_channel]
  have hpinned : (s.azRestarted i).scu[i].pinned = u.pinned := by rw [State.azRestarted_channel]
  have htarget : (s.azRestarted i).azTarget i = s.azTarget i := State.azTarget_azRestarted
  have hstep (h : idle) : exec (.autoZeroStep i) s = .next ((s.azRestarted i).autoZero i) := by
    obtain ⟨hconn, hstate, hpulse, hst, hwait, hwin⟩ := h
    exact execAutoZeroStep_idle hd (State.idleStrip_iff.2 ⟨hconn, hstate, hpulse, hst, hwait⟩) hwin
  have hupd (f : Scu → Scu) : (s.azRestarted i).updScu i f = moved f := State.azRestarted_updScu f
  refine ⟨fun h => ?_, fun h h₁ h₂ => ?_, fun h hm hlow hhigh => ⟨fun hz => ?_, fun hz => ?_⟩,
    fun h hm hlow hhigh => ⟨fun hz => ?_, fun hz => ?_⟩, fun h hblock => ?_⟩
  · refine execAutoZeroStep_busy hd fun hidle => h ?_
    obtain ⟨hconn, hstate, hpulse, hst, hwait⟩ := State.idleStrip_iff.1 hidle.1
    exact ⟨hconn, hstate, hpulse, hst, hwait, hidle.2⟩
  · rw [hstep h, State.autoZero_stays (by rw [htarget, hbase]; exact State.azTarget_none h₁ h₂)]
    rfl
  · rw [hstep h, State.autoZero_outward (b := u.base + 1) (htarget.trans (State.azTarget_up hm)) (by omega) ⟨hlow, hhigh⟩, hupd]
    rw [hbase, abs_succ_sub_lt]
    exact not_lt.2 hz
  · rw [hstep h, State.autoZero_inward (b := u.base + 1) (htarget.trans (State.azTarget_up hm)) (by omega) ⟨hlow, hhigh⟩, hupd]
    · rfl
    · rw [hbase, abs_succ_sub_lt]
      exact hz
  · rw [hstep h, State.autoZero_outward (b := u.base - 1) (htarget.trans (State.azTarget_down hm)) (by omega) ⟨hlow, hhigh⟩, hupd]
    rw [hbase, abs_pred_sub_lt]
    exact not_lt.2 hz
  · rw [hstep h, State.autoZero_inward (b := u.base - 1) (htarget.trans (State.azTarget_down hm)) (by omega) ⟨hlow, hhigh⟩, hupd]
    · rfl
    · rw [hbase, abs_pred_sub_lt]
      exact hz
  · obtain ⟨b, ht, hne, hw⟩ : ∃ b, s.azTarget i = b ∧ b ≠ u.base ∧ ¬ s.inWindow i b := by
      obtain ⟨hm, hout⟩ | ⟨hm, hout⟩ := hblock
      · exact ⟨_, State.azTarget_up hm, (lt_add_one _).ne', fun hin => absurd hin.2 (not_le.2 hout)⟩
      · exact ⟨_, State.azTarget_down hm, (sub_one_lt _).ne, fun hin => absurd hin.1 (not_le.2 hout)⟩
    rw [hstep h]
    refine ⟨fun hp => ?_, fun hp => ?_⟩
    · rw [State.autoZero_pinned (htarget.trans ht) (by rw [hbase]; exact hne) hw (hpinned.trans hp)]
      rfl
    · rw [State.autoZero_pins (htarget.trans ht) (by rw [hbase]; exact hne) hw (hpinned.trans hp), hupd]
      rfl

end Sys2Proof.Machine

namespace Sys2Proof.Machine

/-! ### Timers that expire (R5, R13, R15, R33, R50, R172) -/

section
variable {s : State} {i : Strip}

theorem execPinnedTimerExpiry_due (h : due s.scu[i].pinDue s.siteTime) : exec (.pinnedTimerExpiry i) s =
    .next ((s.updScu i fun u => { u with pinDue := none }).evidence i fun c => { c with drift := true }) :=
  congrArg Host.Outcome.next (if_pos (expired_iff.2 h))

/-- The re-zero and the cleared pinned state are one move of the channel; the two reports follow it. -/
theorem execStandingTimerExpiry_due {st : Standing} (hst : s.scu[i].standing = some st) (h : due (some st.due) s.siteTime) :
    exec (.standingTimerExpiry i) s = .next (((s.updScu i fun u =>
      { u with
        base := s.clampBase i (windowMean u.recentWin)
        standing := none
        idleWait := 0
        pinned := false
        pinDue := none }).withdrawDrift i).evidence i fun c => { c with standing := true }) := by
  have hdue : expired (s.scu[i].standing.map (·.due)) s.siteTime = true := by
    rw [hst]
    exact expired_iff.2 h
  refine congrArg Host.Outcome.next ((if_pos hdue).trans ?_)
  simp only [State.clearPinned, State.updScu_updScu]
  rfl

theorem execNoiseWindowEnd_connected (h : due s.scu[i].noiseDue s.siteTime) (hc : s.scu[i].conn = .connected) :
    exec (.noiseWindowEnd i) s = .next ((s.updScu i fun u =>
      { u with
        noisyLive := s.par.lane[laneOf i].noiseLim ≤ s.scu[i].noiseCount
        noisyLatched := u.noisyLatched || decide (s.par.lane[laneOf i].noiseLim ≤ s.scu[i].noiseCount)
        noiseCount := 0
        noiseDue := some (s.siteTime + 16000) }).evidence i
      fun c => { c with noise := s.par.lane[laneOf i].noiseLim ≤ s.scu[i].noiseCount }) := by
  refine congrArg Host.Outcome.next ((if_pos (expired_iff.2 h)).trans ?_)
  simp only [hc, if_true, decide_true, Bool.true_and]
  exact congrArg (State.evidence · i _) (State.updScu_congr rfl)

theorem execNoiseWindowEnd_apart (h : due s.scu[i].noiseDue s.siteTime) (hc : s.scu[i].conn ≠ .connected) :
    exec (.noiseWindowEnd i) s = .next ((s.updScu i fun u =>
      { u with noiseCount := 0, noiseDue := some (s.siteTime + 16000) }).evidence i
      fun c => { c with noise := s.scu[i].noisyLive }) := by
  refine congrArg Host.Outcome.next ((if_pos (expired_iff.2 h)).trans ?_)
  simp only [if_neg hc, decide_eq_false hc, Bool.false_and, Bool.or_false]
  exact congrArg (State.evidence · i _) (State.updScu_congr rfl)

theorem execHoldTimerExpiry_due {n : Lane} (h : due s.ptu.lane[n].holdDue s.siteTime) : exec (.holdTimerExpiry n) s = .next
    { s with
      ptu := { s.ptu with lane := upd s.ptu.lane n fun l => { l with validity := .invalid, holdDue := none } } } :=
  congrArg Host.Outcome.next (if_pos (expired_iff.2 h))

theorem execHoldoffExpiry_due (h : due s.shu[i].holdoffDue s.siteTime) : exec (.holdoffExpiry i) s =
    .next { s with shu := upd s.shu i fun h => { h with holdoffDue := none } } :=
  congrArg Host.Outcome.next (if_pos (expired_iff.2 h))

/-- A strip in use asks for its periodic test, and the next period starts (R50). -/
theorem execPeriodicTimerExpiry_due (h : due s.mcs.strip[i].periodicDue s.siteTime) (hp : 0 < s.par.testPeriod) :
    let m := if s.shu[i].state = .outOfService ∨ s.shu[i].state = .disabled then s.mcs else s.mcs.request i .periodic
    exec (.periodicTimerExpiry i) s = .next
      { s with
        mcs := { m with
          strip := upd m.strip i fun t =>
            { t with periodicDue := some (s.siteTime + BitVec.ofNat 32 (s.par.testPeriod * 960000)) } } } := by
  intro m
  have hnext (t : State) (ht : t.par = s.par) (ht' : t.siteTime = s.siteTime) :
      t.nextPeriod = some (s.siteTime + BitVec.ofNat 32 (s.par.testPeriod * 960000)) := by
    rw [State.nextPeriod, ht, ht', if_pos hp]
    rfl
  refine congrArg Host.Outcome.next ((if_pos (expired_iff.2 h)).trans ?_)
  by_cases hout : s.shu[i].state = .outOfService ∨ s.shu[i].state = .disabled
  · have hm : m = s.mcs := if_pos hout
    have hdel : s.shu[i].state.delivers = false := by
      obtain hout | hout := hout
      all_goals rw [hout]; rfl
    simp only [hdel, Bool.false_eq_true, if_false]
    rw [hm, hnext s rfl rfl]
    rfl
  · have hm : m = s.mcs.request i .periodic := if_neg hout
    have hdel : s.shu[i].state.delivers = true := by
      cases hs : s.shu[i].state with
      | outOfService => exact absurd (.inl hs) hout
      | disabled => exact absurd (.inr hs) hout
      | inService | suspect | recovering => rfl
    simp only [hdel, if_true]
    rw [hm, hnext (s.request i .periodic) rfl rfl]
    rfl

end

/-- Settles O29: one lemma per timer. -/
theorem timersExpire : Obligations.TimersExpire := by
  intro s i n channel
  exact ⟨execPinnedTimerExpiry_due, fun st hst h => execStandingTimerExpiry_due hst h,
    fun h => ⟨execNoiseWindowEnd_connected h, execNoiseWindowEnd_apart h⟩, execHoldTimerExpiry_due,
    execPeriodicTimerExpiry_due, execHoldoffExpiry_due⟩

end Sys2Proof.Machine

namespace Sys2Proof.Machine

/-! ### Test results and evidence as they leave a health record (R163, R164, R169) -/

theorem Health.enter_suspect {h : Health} (hst : h.state = .inService) :
    h.enter .suspect = { h with state := .suspect, changed := true, leftService := true } := by
  rw [Health.enter_changes (by rw [hst]; decide) (by decide)]
  simp only [hst, decide_true, Bool.or_true]

/-- The health record of a strip that its evidence takes out of service, written out (R163, R170, R172). -/
theorem Health.failed_eq {h : Health} (hst : h.state ≠ .outOfService) (due : Time) : h.failed due =
    { h with
      state := .outOfService
      failCount := 0
      changed := true
      leftService := h.leftService || h.state = .inService
      holdoffDue := some due } := by
  rw [Health.failed, Health.enter_changes (Ne.symm hst) (by decide)]

section
variable {s : State} {i : Strip}

theorem State.leave_congr {f f' : Health → Health} {g : Scu → Scu} (h : f s.shu[i] = f' s.shu[i]) :
    s.leave i f g = s.leave i f' g := by
  simp only [State.leave, State.updShu_congr h]

theorem State.testResult_disabled (h : s.shu[i].state = .disabled) (pass : Bool) : s.testResult i pass = s := by
  simp only [State.testResult, h]

theorem State.testResult_judgedPass (h : s.shu[i].state = .inService ∨ s.shu[i].state = .suspect) : s.testResult i true =
    (s.updShu i fun h => { h with failCount := 0 }).evidence i fun c => { c with testFail := false } := by
  obtain h | h := h
  all_goals simp only [State.testResult, h]

theorem State.testResult_firstFail (h : s.shu[i].state = .inService ∨ s.shu[i].state = .suspect)
    (hf : s.shu[i].failCount = 0) : s.testResult i false =
    (s.updShu i fun h => { h with failCount := 1 }).evidence i fun c => { c with testFail := true } := by
  obtain h | h := h
  all_goals simp only [State.testResult, h, hf, Nat.zero_ne_one, if_false]

/-- A second fail, or a fail in RECOVERING, takes the strip out of service (R169, R170). -/
theorem State.testResult_failsOut (h : ((s.shu[i].state = .inService ∨ s.shu[i].state = .suspect) ∧ s.shu[i].failCount = 1) ∨
      s.shu[i].state = .recovering) : s.testResult i false = s.leave i (fun h =>
    { h with
      state := .outOfService
      causes := { h.causes with testFail := true }
      failCount := 0
      changed := true
      leftService := h.leftService || h.state = .inService
      holdoffDue := some s.holdoffEnd }) Scu.marked := by
  have hne : s.shu[i].state ≠ .outOfService := by
    obtain ⟨h | h, -⟩ | h := h
    all_goals rw [h]; decide
  have hout : s.testResult i false =
      (s.updShu i fun h => { h with causes := { h.causes with testFail := true } }).failOut i := by
    obtain ⟨h | h, hf⟩ | h := h
    · simp only [State.testResult, h, hf, if_true]
    · simp only [State.testResult, h, hf, if_true]
    · simp only [State.testResult, h]
  rw [hout, State.failOut_updShu]
  exact State.leave_congr
    (Health.failed_eq (h := { s.shu[i] with causes := { s.shu[i].causes with testFail := true } }) hne s.holdoffEnd)

theorem State.testResult_recovered (h : s.shu[i].state = .recovering) : s.testResult i true = s.updShu i fun h =>
    { h with state := .inService, causes := Causes.none, missCount := 0, failCount := 0, changed := true } := by
  have hres : s.testResult i true = s.updShu i fun h =>
      { h.enter .inService with causes := Causes.none, missCount := 0, failCount := 0 } := by
    simp only [State.testResult, h]
  rw [hres]
  refine State.updShu_congr ?_
  rw [Health.enter_inService (by rw [h]; decide)]

theorem State.testResult_out (h : s.shu[i].state = .outOfService) (pass : Bool) :
    s.testResult i pass = s.updShu i fun h => { h with causes := { h.causes with testFail := !pass } } := by
  simp only [State.testResult, h]

end

/-- Settles O34: the cases of the re-evaluation, then R169's table row by row. -/
theorem evidenceAndResultsMoveTheServiceState : Obligations.EvidenceAndResultsMoveTheServiceState := by
  refine ⟨?_, ?_⟩
  · intro s i f h set
    refine ⟨fun hv => ?_, fun hf hst hc => ?_, fun hf hst hc => ?_, fun hf hst => ?_⟩
    · exact State.evidence_void hv.symm
    · rw [State.evidence_toSuspect hst hf hc]
      exact congrArg (State.request · i .suspect)
        (State.updShu_congr (Health.enter_suspect (h := { s.shu[i] with causes := f s.shu[i].causes }) hst))
    · rw [State.evidence_toService hst hf hc]
      exact State.updShu_congr (Health.enter_inService (h := { s.shu[i] with causes := f s.shu[i].causes })
        (by show h.state ≠ .inService; rw [hst]; decide))
    · rw [State.evidence_noted (fun hd => ?_) hf (fun hi => ?_) fun hs => ?_]
      · exact State.updShu_congr rfl
      · rw [show h.state = .disabled from hd] at hst
        simp at hst
      · rw [show h.state = .inService from hi] at hst
        simpa only [reduceCtorEq, false_and, true_and, false_or] using hst
      · rw [show h.state = .suspect from hs] at hst
        simpa only [reduceCtorEq, false_and, true_and, false_or, or_false] using hst
  · intro s i h set failed out
    refine ⟨fun hst => ⟨?_, ?_⟩, fun hst => ⟨?_, fun hf => ?_, fun hf => ?_⟩, fun hst => ⟨?_, ?_⟩, fun hst => ⟨?_, ?_⟩⟩
    · exact State.testResult_disabled hst true
    · exact State.testResult_disabled hst false
    · rw [State.testResult_judgedPass hst]
      exact congrArg (State.evidence · i _) (State.updShu_congr rfl)
    · rw [State.testResult_failsOut (.inl ⟨hst, hf⟩)]
      exact State.leave_congr rfl
    · rw [State.testResult_firstFail hst hf]
      exact congrArg (State.evidence · i _) (State.updShu_congr rfl)
    · rw [State.testResult_recovered hst]
      exact State.updShu_congr rfl
    · rw [State.testResult_failsOut (.inr hst)]
      exact State.leave_congr rfl
    · rw [State.testResult_out hst]
      exact State.updShu_congr rfl
    · rw [State.testResult_out hst]
      exact State.updShu_congr rfl

/-! ### Misses and contributions (R17, R69, R70, R165, R166) -/

theorem inReach_iff {t now : Time} : inReach t now = true ↔ (now - t).toNat < 2147483648 := decide_eq_true_iff

theorem passed_iff {t now : Time} : passed t now = true ↔ 0 < (now - t).toNat ∧ (now - t).toNat < 2147483648 := by
  rw [passed, Bool.and_eq_true, inReach_iff]
  exact and_congr_left' decide_eq_true_iff

/-- A strip was disturbed at t: its interval began before t and had not ended (R17). -/
theorem Scu.disturbedAt_iff {u : Scu} {t : Time} : u.disturbedAt t = true ↔ ∃ d, u.disturb = some d ∧
    (t - d.start).toNat < 2147483648 ∧
    ∀ e, d.stop = some e → 0 < (e - t).toNat ∧ (e - t).toNat < 2147483648 := by
  cases hu : u.disturb with
  | none => simp [Scu.disturbedAt, hu]
  | some d =>
    cases hd : d.stop with
    | none => simp [Scu.disturbedAt, hu, hd, -BitVec.toNat_sub, inReach_iff]
    | some e => simp [Scu.disturbedAt, hu, hd, -BitVec.toNat_sub, inReach_iff, passed_iff]

section
variable {s : State} {i : Strip}

theorem Service.delivers_iff {v : Service} : v.delivers = true ↔ v ≠ .outOfService ∧ v ≠ .disabled := by
  cases v <;> decide

/-- A miss from 4 × MISS_LIM on, with the health record written out (R165, R170). -/
theorem State.miss_failsOut (hd : s.shu[i].state.delivers = true) (hst : s.shu[i].state ≠ .recovering)
    (hfour : 4 * s.par.missLim ≤ s.shu[i].nextMiss) : s.miss i = s.leave i (fun h =>
    { h.counted with
      state := .outOfService
      causes := { h.causes with miss := true }
      failCount := 0
      changed := true
      leftService := h.leftService || h.state = .inService
      holdoffDue := some s.holdoffEnd }) Scu.marked := by
  have hne : s.shu[i].state ≠ .outOfService := (Service.delivers_iff.1 hd).1
  rw [State.miss_fails hd hst hfour]
  exact State.leave_congr
    (Health.failed_eq (h := { s.shu[i].counted with causes := { s.shu[i].causes with miss := true } }) hne s.holdoffEnd)

theorem State.contribution_inUse (h : s.shu[i].state.delivers = true) : s.contribution i =
    (s.updShu i fun h => { h with missCount := 0 }).evidence i fun c => { c with miss := false } := if_pos h

theorem State.missReport_excused {ref : Time}
    (h : s.scu[i].disturbedAt ref = true ∨ s.scu[i].disturbedAt s.siteTime = true) : s.missReport i ref = s :=
  if_pos (by simp only [Bool.or_eq_true]; tauto)

theorem State.missReport_counts {ref : Time} (hd : s.shu[i].state.delivers = true) (h : s.scu[i].disturbedAt ref = false)
    (h' : s.scu[i].disturbedAt s.siteTime = false) : s.missReport i ref = s.miss i :=
  if_neg (by simp only [hd, h, h']; decide)

end

/-- Settles O35: the miss by the count it reaches, the contribution, and the excuse. -/
theorem missesAndContributions : Obligations.MissesAndContributions := by
  intro s i hout hdis h count set counted
  have hd : s.shu[i].state.delivers = true := Service.delivers_iff.2 ⟨hout, hdis⟩
  refine ⟨fun hst => ?_, fun hst hlim hfour => ?_, fun hst hlim hfour => ?_, fun hst hfour => ?_, ?_, ?_⟩
  · exact State.miss_recovering hst
  · exact State.miss_below hd hst hlim hfour
  · exact State.miss_reaches hd hst hlim hfour
  · exact State.miss_failsOut hd hst hfour
  · exact State.contribution_inUse hd
  · intro ref within
    have hat (u : Time) : s.scu[i].disturbedAt u = true ↔ ∃ d, s.scu[i].disturb = some d ∧ within d u := Scu.disturbedAt_iff
    refine ⟨fun d hd' hw => State.missReport_excused (hw.imp (fun h => ?_) fun h => ?_), fun hex => ?_⟩
    · exact (hat ref).2 ⟨d, hd', h⟩
    · exact (hat s.siteTime).2 ⟨d, hd', h⟩
    · have hno (u : Time) (hu : u = ref ∨ u = s.siteTime) : s.scu[i].disturbedAt u = false := by
        rw [Bool.eq_false_iff, ne_eq, hat]
        rintro ⟨d, hd', hw⟩
        obtain ⟨h₁, h₂⟩ := hex d hd'
        obtain rfl | rfl := hu
        · exact h₁ hw
        · exact h₂ hw
      exact State.missReport_counts hd (hno ref (.inl rfl)) (hno s.siteTime (.inr rfl))

end Sys2Proof.Machine

namespace Sys2Proof.Machine

/-! ### CAL_COMMIT (R186, R190) -/

theorem forall_mem_toList {α : Type} {n : Nat} {v : Vector α n} {P : α → Prop} :
    (∀ a ∈ v.toList, P a) ↔ ∀ i : Fin n, P v[i] := by
  simp only [Vector.mem_toList_iff, Vector.mem_iff_getElem]
  exact ⟨fun h i => h _ ⟨i.val, i.isLt, rfl⟩, fun h _ ⟨k, hk, e⟩ => e ▸ h ⟨k, hk⟩⟩

/-- The values that CAL_COMMIT lets through, value by value (R190). -/
theorem CalSet.storable_iff {c : CalSet} : c.storable = true ↔ (∀ (i : Strip) (j : Fin 9), c.strip[i].k[j] ≠ 0) ∧
    ∀ m : Lane, 500 ≤ c.lane[m].spacing ∧ c.lane[m].spacing ≤ 5000 := by
  simp only [CalSet.storable, Bool.and_eq_true, List.all_eq_true, decide_eq_true_eq]
  rw [forall_mem_toList, forall_mem_toList]
  simp only [forall_mem_toList]

section
variable {s : State}

/-- With the switch closed and no store in flight a calibration command is taken (R186). -/
theorem whenUnlocked_open (hc : s.cst.closed = true) (hs : s.cst.store = none) (run : Reply × State) :
    whenUnlocked s run = run := by
  simp only [whenUnlocked, hc, hs, Bool.not_true, Bool.false_eq_true, if_false, Option.isSome_none]

variable (hc : s.cst.closed = true) (hs : s.cst.store = none) {crc : BitVec 16}
include hc hs

theorem calCommit_unstorable (h : ¬ (s.cst.staging.storable = true ∧ s.cst.counter ≠ 4294967295)) :
    calCommit (bytes2 crc.toNat) s = refuse .badValue s := by
  rw [calCommit, whenUnlocked_open hc hs]
  refine if_pos (.inr ?_)
  simp only [Bool.not_eq_true']
  by_contra hno
  simp only [not_or, Bool.not_eq_false] at hno
  exact h hno

/-- A storable staging copy leaves the comparison of the CRCs. -/
theorem calCommit_storable (h : s.cst.staging.storable = true) (hn : s.cst.counter ≠ 4294967295) :
    calCommit (bytes2 crc.toNat) s = if crc ≠ s.cst.staging.crc then refuse .crcMismatch s
      else accept (bytes4 s.cst.counter ++ bytes2 s.cst.staging.crc.toNat)
        { s with cst := { s.cst with store := some s.siteTime } } := by
  have hcrc : (u16 (bytes2 crc.toNat) 0 ≠ s.cst.staging.crc.toNat) = (crc ≠ s.cst.staging.crc) := by
    rw [← List.append_nil (bytes2 crc.toNat), u16_bytes2 _ crc.isLt, ne_eq, BitVec.toNat_inj]
  rw [calCommit, whenUnlocked_open hc hs, if_neg]
  · simp only [hcrc]
    rfl
  · simp only [h, hn, show (bytes2 crc.toNat).length = 2 from rfl]
    decide

end

/-! ### The store's completion (R192, R193) -/

/-- The memory after a completed store, before its slot record: the spare slot as it reads back (R184). -/
def Nonvolatile.spared (v : Nonvolatile) (image : List Byte) : Nonvolatile :=
  { v with
    slot0 := if v.current1 then image else v.slot0
    slot1 := if v.current1 then v.slot1 else image }

theorem Nonvolatile.writeSpare_eq (v : Nonvolatile) (image : List Byte) : v.writeSpare image = v.spared image := by
  unfold Nonvolatile.writeSpare Nonvolatile.spared
  by_cases h : v.current1 = true
  · simp only [if_pos h]
  · simp only [if_neg h]

theorem Nonvolatile.stored_success (v : Nonvolatile) {bytes : List Byte} {crc : BitVec 16} (h : crc16 bytes = crc) :
    v.stored bytes crc = { v.spared (bytes ++ bytes2 crc.toNat) with
      current1 := !v.current1, counter := v.counter + 1, failMark := false } := by
  simp only [Nonvolatile.stored, h, decide_true, Nonvolatile.writeRecord, if_true, Nonvolatile.writeSpare_eq]
  rfl

theorem Nonvolatile.stored_failure (v : Nonvolatile) {bytes : List Byte} {crc : BitVec 16} (h : crc16 bytes ≠ crc) :
    v.stored bytes crc = { v.spared (bytes ++ bytes2 crc.toNat) with failMark := true } := by
  simp only [Nonvolatile.stored, decide_eq_false h, Nonvolatile.writeRecord, Bool.false_eq_true, if_false,
    Nonvolatile.writeSpare_eq]
  rfl

section
variable {s : State} {start : Time} {bytes : List Byte} (hstore : s.cst.store = some start)
  (hmin : 480 ≤ (s.siteTime - start).toNat) (hmax : (s.siteTime - start).toNat ≤ 1440)
include hstore hmin hmax

theorem State.storeDue_of : s.storeDue = true := by
  simp only [State.storeDue, hstore, Bool.and_eq_true, decide_eq_true_eq]
  exact ⟨hmin, hmax⟩

theorem execStoreCompletion_success (h : crc16 bytes = crc16 s.cst.staging.bytes) :
    exec (.storeCompletion bytes) s = .next (s.storeSuccess bytes) :=
  congrArg Host.Outcome.next ((if_pos (State.storeDue_of hstore hmin hmax)).trans (if_pos h))

theorem execStoreCompletion_failure (h : crc16 bytes ≠ crc16 s.cst.staging.bytes) :
    exec (.storeCompletion bytes) s = .next (s.storeFailure bytes) :=
  congrArg Host.Outcome.next ((if_pos (State.storeDue_of hstore hmin hmax)).trans (if_neg h))

end

/-- The part after a successful store, before the withdrawals of DRIFT (R2, R192). -/
def State.storeMoved (s : State) (bytes : List Byte) : State :=
  { (s.updCst fun k => k.storedWith bytes).rewindowAll (allStrips.filter s.cst.zMoves) with
    cpt := { s.cpt with calEvent := true } }

theorem State.storeSuccess_withdraws (s : State) (bytes : List Byte) :
    s.storeSuccess bytes = (allStrips.filter s.cst.zMoves).foldl State.withdrawDrift (s.storeMoved bytes) := by
  rw [State.storeSuccess_eq, State.storeMoves, State.foldl_windowChange _ (allStrips_nodup.filter _),
    State.foldl_withdrawDrift_port, ← State.foldl_withdrawDrift_cpt]
  rfl

/-- The strips that a store moves are those whose Z it changes. -/
theorem State.rewindowAll_zMoves (s t : State) : t.rewindowAll (allStrips.filter s.cst.zMoves) = { t with
    scu := Vector.ofFn fun i => if s.cst.zMoves i then t.rewindowed i t.scu[i] else t.scu[i] } := by
  simp only [State.rewindowAll, List.mem_filter, mem_allStrips, true_and]

/-- Settles O54: the checks in R190's order, and the two outcomes of the read-back. -/
theorem commitStoresTheStagingCopy : Obligations.CommitStoresTheStagingCopy := by
  refine ⟨?_, ?_⟩
  · intro s x crc h hc hs c answer storable
    refine ⟨fun hno => ?_, fun ⟨hk, hl, hn⟩ hcrc => ?_, fun ⟨hk, hl, hn⟩ hcrc => ?_⟩
    · refine addressedCommand_refuses h (calCommit_unstorable (s := s.drive _) hc hs fun ⟨hst, hn⟩ => hno ?_)
      obtain ⟨hk, hl⟩ := CalSet.storable_iff.1 hst
      exact ⟨hk, hl, hn⟩
    · exact addressedCommand_refuses h ((calCommit_storable (s := s.drive _) hc hs (CalSet.storable_iff.2 ⟨hk, hl⟩) hn).trans
        (if_pos hcrc))
    · refine addressedCommand_answers h ((calCommit_storable (s := s.drive _) hc hs (CalSet.storable_iff.2 ⟨hk, hl⟩) hn).trans
        ((if_neg (not_not.2 hcrc)).trans ?_))
      rw [hcrc]
      rfl
  · intro s start bytes hstore hmin hmax nv image spare moved
    refine ⟨fun hgood => ?_, fun hbad => ?_⟩
    · rw [execStoreCompletion_success hstore hmin hmax hgood, State.storeSuccess_withdraws]
      refine congrArg (fun t => Host.Outcome.next ((allStrips.filter s.cst.zMoves).foldl State.withdrawDrift t)) ?_
      rw [State.storeMoved, State.rewindowAll_zMoves]
      have hnv := s.cst.nv.stored_success hgood
      simp only [State.updCst, Cst.storedWith, CalSet.crc, hnv]
      rfl
    · rw [execStoreCompletion_failure hstore hmin hmax hbad, State.storeFailure]
      have hnv := s.cst.nv.stored_failure hbad
      simp only [State.updCst, CalSet.crc, hnv]
      rfl

end Sys2Proof.Machine

namespace Sys2Proof.Machine

/-! ### A slot that converts a probe begins (R44, R45) -/

/-- The end of the slot at the slot position is set (R43). -/
def State.slotTimed (s : State) : State :=
  { s with mcs := { s.mcs with slotDue := some (s.siteTime + BitVec.ofNat 32 (s.mcs.frame[s.mcs.pos].len * 16)) } }

section
variable {s : State}

theorem State.chooseProbe_pointer (h : s.ptu.probe[s.mcs.pointer].state ≠ .disabled) :
    s.chooseProbe = .probe s.mcs.pointer := by
  have hfind : s.probeToConvert = some s.mcs.pointer := List.find?_cons_of_pos (decide_eq_true h)
  rw [State.chooseProbe, hfind]

theorem State.choose_probe : s.choose .probe = s.chooseProbe := by simp only [State.choose]

/-- A PROBE slot of sufficient length converts the probe at the pointer, if this probe is not DISABLED. -/
theorem State.beginSlot_probe (hf : s.mcs.flight = none) (hr : s.mcs.frame[s.mcs.pos].rule = .probe)
    (hl : 20 ≤ s.mcs.frame[s.mcs.pos].len) (hp : s.ptu.probe[s.mcs.pointer].state ≠ .disabled) : s.beginSlot = { s with
      mcs := { s.mcs with
        slotDue := some (s.siteTime + BitVec.ofNat 32 (s.mcs.frame[s.mcs.pos].len * 16))
        work := .probe s.mcs.pointer
        pointer := s.mcs.pointer + 1 } } := by
  have hbreak : s.slotTimed.breakSequence = s.slotTimed := by
    simp only [State.breakSequence, show s.slotTimed.mcs.flight = none from hf]
  have hchoose : s.slotTimed.choose s.slotTimed.mcs.frame[s.slotTimed.mcs.pos].rule = .probe s.mcs.pointer := by
    rw [show s.slotTimed.mcs.frame[s.slotTimed.mcs.pos].rule = .probe from hr, State.choose_probe]
    exact State.chooseProbe_pointer (s := s.slotTimed) hp
  have hfits (next : Nat) :
      (Choice.probe s.mcs.pointer).fits s.slotTimed.mcs.frame[s.slotTimed.mcs.pos].len next = true := decide_eq_true hl
  show s.slotTimed.breakSequence.chooseWork = _
  rw [hbreak, State.chooseWork]
  simp only [hchoose, hfits, if_true]
  rfl

end

/-! ### The values of an image (R182, R197) -/

section
variable {p : List Byte} {n k : Nat}

theorem u8_take (h : k < n) : u8 (p.take n) k = u8 p k := by
  simp only [u8, List.getD_eq_getElem?_getD, List.getElem?_take_of_lt h]

theorem u16_take (h : k + 1 < n) : u16 (p.take n) k = u16 p k := by
  rw [u16, u16, u8_take h, u8_take (Nat.lt_of_succ_lt h)]

theorem s16_take (h : k + 1 < n) : s16 (p.take n) k = s16 p k := by rw [s16, s16, u16_take h]

theorem CalSet.ofBytes_strip (i : Strip) : (CalSet.ofBytes p).strip[i] = stripItem p (20 * i.val) :=
  Vector.getElem_ofFn i.isLt

theorem CalSet.ofBytes_lane (m : Lane) : (CalSet.ofBytes p).lane[m] = laneItem p (320 + 4 * m.val) :=
  Vector.getElem_ofFn m.isLt

theorem CalSet.clamped_strip (c : CalSet) (i : Strip) :
    c.clamped.strip[i] = { c.strip[i] with k := mapAll c.strip[i].k fun k => max k 1 } := by
  simp only [CalSet.clamped, mapAll_get]

theorem CalSet.clamped_lane (c : CalSet) (m : Lane) :
    c.clamped.lane[m] = { spacing := min (max c.lane[m].spacing 500) 5000, trim := clampTrim c.lane[m].trim } := by
  simp only [CalSet.clamped, mapAll_get]

theorem stripItem_k (i j : Nat) (hj : j < 9) : (stripItem p i).k[j] = u16 p (i + 2 * j) :=
  Vector.getElem_ofFn hj

end

/-! ### The start-up load (R197) -/

/-- The image of the current slot has the CRC of its field (R197 step 2). -/
def Nonvolatile.good (v : Nonvolatile) : Bool := crc16 (v.current.take 336) = BitVec.ofNat 16 (u16 v.current 336)

/-- The values that the load takes: those of the image, clamped if its CRC is bad (R197 steps 3 and 4). -/
def Nonvolatile.values (v : Nonvolatile) : CalSet :=
  if v.good then CalSet.ofBytes (v.current.take 336) else (CalSet.ofBytes (v.current.take 336)).clamped

theorem Cst.load_eq (k : Cst) : k.load =
    { nv := k.nv, counter := k.nv.counter, working := k.nv.values, staging := k.nv.values, store := none
      invalid := !k.nv.good || k.nv.failMark, unstored := false, closed := k.calsw, calsw := k.calsw, calswDue := none } := rfl

section
variable (v : Nonvolatile)

theorem Nonvolatile.values_k (i : Strip) (j : Fin 9) : v.values.strip[i].k[j] =
    if v.good then u16 v.current (20 * i.val + 2 * j.val) else max (u16 v.current (20 * i.val + 2 * j.val)) 1 := by
  have hk : (CalSet.ofBytes (v.current.take 336)).strip[i].k[j] = u16 v.current (20 * i.val + 2 * j.val) := by
    rw [CalSet.ofBytes_strip]
    exact (stripItem_k _ _ j.isLt).trans (u16_take (by omega))
  unfold Nonvolatile.values
  split
  · exact hk
  · simp only [CalSet.clamped_strip, mapAll_get, hk]

theorem Nonvolatile.values_z (i : Strip) : v.values.strip[i].z = s16 v.current (20 * i.val + 18) := by
  have hz : (CalSet.ofBytes (v.current.take 336)).strip[i].z = s16 v.current (20 * i.val + 18) := by
    rw [CalSet.ofBytes_strip]
    exact s16_take (by omega)
  unfold Nonvolatile.values
  split
  · exact hz
  · simp only [CalSet.clamped_strip, hz]

theorem Nonvolatile.values_spacing (m : Lane) : v.values.lane[m].spacing =
    if v.good then u16 v.current (320 + 4 * m.val) else max 500 (min (u16 v.current (320 + 4 * m.val)) 5000) := by
  have hs : (CalSet.ofBytes (v.current.take 336)).lane[m].spacing = u16 v.current (320 + 4 * m.val) := by
    rw [CalSet.ofBytes_lane]
    exact u16_take (by omega)
  unfold Nonvolatile.values
  split
  · exact hs
  · simp only [CalSet.clamped_lane, hs]
    omega

theorem Nonvolatile.values_trim (m : Lane) : v.values.lane[m].trim =
    if v.good then s16 v.current (322 + 4 * m.val) else max (-512) (min (s16 v.current (322 + 4 * m.val)) 511) := by
  have ht : (CalSet.ofBytes (v.current.take 336)).lane[m].trim = s16 v.current (322 + 4 * m.val) := by
    rw [CalSet.ofBytes_lane, show 322 + 4 * m.val = 320 + 4 * m.val + 2 by omega]
    exact s16_take (by omega)
  unfold Nonvolatile.values
  split
  · exact ht
  · simp only [CalSet.clamped_lane, ht]
    rfl

end

/-- The load starts the strips and the first slot, here one that converts the probe at the pointer (R21, R58, R197). -/
theorem execLoadCompletion_probe {s : State} (hl : s.loaded = false) (hf : s.mcs.flight = none)
    (hr : s.mcs.frame[s.mcs.pos].rule = .probe) (hlen : 20 ≤ s.mcs.frame[s.mcs.pos].len)
    (hp : s.ptu.probe[s.mcs.pointer].state ≠ .disabled) : exec .loadCompletion s = .next
      { s.loadTaken.startStrips with
        mcs := { s.loadTaken.startStrips.mcs with
          slotDue := some (s.siteTime + BitVec.ofNat 32 (s.mcs.frame[s.mcs.pos].len * 16))
          work := .probe s.mcs.pointer
          pointer := s.mcs.pointer + 1 } } := by
  have hstart : exec .loadCompletion s = .next s.loadTaken.startStrips.beginSlot := by
    rw [← State.foldl_startStrip]
    exact execLoadCompletion_eq hl
  have hmcs : s.loadTaken.startStrips.mcs =
      { s.mcs with strip := mapAll s.mcs.strip fun t => { t with periodicDue := s.loadTaken.nextPeriod } } := by
    rw [State.startStrips]
    rfl
  rw [hstart, State.beginSlot_probe (by simp only [hmcs]; exact hf) (by simp only [hmcs]; exact hr)
    (by simp only [hmcs]; exact hlen) (by simp only [hmcs]; exact hp)]
  simp only [hmcs]
  rfl

/-! ### The switch (R185) -/

theorem execCalswInputChange_new {s : State} (hl : s.loaded = true) (h : s.cst.calsw ≠ !s.cst.closed) :
    exec (.calswInputChange (!s.cst.closed)) s =
      .next { s with cst := { s.cst with calsw := !s.cst.closed, calswDue := some (s.siteTime + 800) } } := by
  have hwait : (s.loaded && decide ((!s.cst.closed) ≠ s.cst.closed)) = true := by
    rw [hl]
    cases s.cst.closed <;> rfl
  refine congrArg Host.Outcome.next ((if_neg h.symm).trans ?_)
  simp only [State.updCst, hwait, if_true]
  rfl

theorem execCalswInputChange_back {s : State} (h : s.cst.calsw ≠ s.cst.closed) :
    exec (.calswInputChange s.cst.closed) s =
      .next { s with cst := { s.cst with calsw := s.cst.closed, calswDue := none } } := by
  refine congrArg Host.Outcome.next ((if_neg h.symm).trans ?_)
  simp only [State.updCst, ne_eq, not_true_eq_false, decide_false, Bool.and_false, Bool.false_eq_true, if_false]

/-- Settles O55: the load's state from its walk over the strips, its values item by item, and the switch's three events. -/
theorem loadAndSwitchAreTaken : Obligations.LoadAndSwitchAreTaken := by
  refine ⟨?_, ?_⟩
  · intro s hl hf hr hlen hp nv image good _
    refine ⟨nv.values, (execLoadCompletion_probe hl hf hr hlen (hp _)).trans ?_, nv.values_k, nv.values_z, nv.values_spacing,
      nv.values_trim⟩
    simp only [State.startStrips, State.loadTaken, State.updCst, Cst.load_eq]
    rfl
  · intro s input
    exact ⟨execCalswInputChange_new, execCalswInputChange_back, fun h =>
      congrArg Host.Outcome.next (if_pos (expired_iff.2 h))⟩

end Sys2Proof.Machine

namespace Sys2Proof.Machine

/-! ### Pulses that are close together, and the strip across a boundary (R61, R63) -/

theorem within_iff {a b : Time} {w : Nat} : within a b w = true ↔ (a - b).toNat ≤ w ∨ (b - a).toNat ≤ w := by
  rw [within, Bool.or_eq_true, or_comm]
  exact or_congr decide_eq_true_iff decide_eq_true_iff

theorem takeWithin_none {mid : Time} {w : Nat} {l : List Waiting} (h : ∀ x ∈ l, ¬ within x.pulse.mid mid w = true) :
    takeWithin mid w l = none := by
  induction l with
  | nil => rfl
  | cons x xs ih =>
    obtain ⟨hx, hxs⟩ := List.forall_mem_cons.1 h
    rw [takeWithin, if_neg hx, ih hxs]
    rfl

/-- The first waiting pulse within reach is taken, and the others keep their order. -/
theorem takeWithin_first {mid : Time} {w : Nat} {xs ys : List Waiting} {x : Waiting}
    (h : ∀ y ∈ xs, ¬ within y.pulse.mid mid w = true) (hx : within x.pulse.mid mid w = true) :
    takeWithin mid w (xs ++ x :: ys) = some (x.pulse, xs ++ ys) := by
  induction xs with
  | nil => exact if_pos hx
  | cons y xs ih =>
    obtain ⟨hy, hxs⟩ := List.forall_mem_cons.1 h
    rw [List.cons_append, takeWithin, if_neg hy, ih hxs]
    rfl

/-- Strip j lies across boundary b from strip i, in the same row (R63). -/
def Astride (b : Boundary) (i j : Strip) : Prop :=
  (i.val % 2 = 0 ∧ i.val / 4 = b.val ∧ j.val = i.val + 5) ∨ (i.val % 2 = 1 ∧ i.val / 4 = b.val + 1 ∧ i.val = j.val + 5)

theorem straddlePartner_iff {i j : Strip} {b : Boundary} : straddlePartner i = some (b, j) ↔ Astride b i j := by
  unfold straddlePartner Astride
  split_ifs with hl h h
  all_goals simp only [Option.some.injEq, Prod.mk.injEq, Fin.ext_iff, false_iff]
  all_goals omega

/-! ### Row hits of one and of two lanes (R62, R64, R65) -/

theorem codeIf_or (a b : Bool) (f : CodeSet) : codeIf (a || b) f = codeIf a f ||| codeIf b f := by
  cases a <;> cases b <;> simp [codeIf]

theorem meanTime_eq (a b : Time) : meanTime a b =
    if (b - a).toNat < 2147483648 then a + BitVec.ofNat 32 ((b - a).toNat / 2)
    else b + BitVec.ofNat 32 ((a - b).toNat / 2) := by
  by_cases h : (b - a).toNat < 2147483648
  · exact (if_pos (inReach_iff.2 h)).trans (if_pos h).symm
  · exact (if_neg (mt inReach_iff.1 h)).trans (if_neg h).symm

/-- A straddle row hit with its hit time and its flags written out. -/
theorem RowHit.ofStraddle_eq (own other : PulseRecord) : RowHit.ofStraddle own other =
    { lane := laneOf own.strip, row := rowOf own.strip, kind := .straddle
      time :=
        if (other.mid - own.mid).toNat < 2147483648 then own.mid + BitVec.ofNat 32 ((other.mid - own.mid).toNat / 2)
        else other.mid + BitVec.ofNat 32 ((own.mid - other.mid).toNat / 2)
      left := some other
      right := some own
      flags := flagStraddle ||| codeIf (own.clipped || other.clipped) flagClipped |||
        codeIf (own.long || other.long) flagLong } := by
  have hflags : flagStraddle ||| own.flags ||| other.flags = flagStraddle |||
      codeIf (own.clipped || other.clipped) flagClipped ||| codeIf (own.long || other.long) flagLong := by
    rw [codeIf_or, codeIf_or, PulseRecord.flags, PulseRecord.flags]
    ac_rfl
  rw [RowHit.ofStraddle, hflags, meanTime_eq]

section
variable {i j : Strip} {b : Boundary} (h : Astride b i j)
include h

/-- The two strips of a straddle lie in the same row. -/
theorem Astride.rowOf_eq : rowOf j = rowOf i := by
  have hpos : j.val % 4 < 2 ↔ i.val % 4 < 2 := by
    obtain ⟨heven, -, hj⟩ | ⟨hodd, -, hi⟩ := h
    all_goals omega
  simp only [rowOf, hpos]

/-- The hit of a straddle has its right wheel on the left strip of lane b, the lower lane. -/
theorem Astride.lane_of_left (hl : isLeft i = true) : laneOf i = b.castSucc := by
  have heven : i.val % 2 = 0 := of_decide_eq_true hl
  obtain ⟨-, hb, -⟩ | ⟨hodd, -, -⟩ := h
  · exact Fin.ext hb
  · omega

theorem Astride.lane_of_right (hl : isLeft i = false) : laneOf j = b.castSucc := by
  have hodd : i.val % 2 ≠ 0 := of_decide_eq_false hl
  obtain ⟨heven, -, -⟩ | ⟨-, hb, hi⟩ := h
  · omega
  · exact Fin.ext (show j.val / 4 = b.val by omega)

end

/-! ### The resolution of a lone pulse (R63 to R65) -/

section
variable {s : State} {r : PulseRecord}

theorem State.resolveLone_half (h : ∀ b j, Astride b r.strip j → s.par.straddleEn[b] = false ∨
    takeWithin r.mid s.par.lane[b.castSucc].wLr s.apu.side[j] = none) : s.resolveLone r = s.halfHit r := by
  unfold State.resolveLone
  split
  next => rfl
  next b j hp =>
    obtain hen | hnone := h b j (straddlePartner_iff.1 hp)
    · simp only [hen, Bool.false_eq_true, if_false]
    · simp only [hnone, ite_self]

theorem State.resolveLone_straddle {b : Boundary} {j : Strip} {q : PulseRecord} {rest : List Waiting}
    (h : Astride b r.strip j) (hen : s.par.straddleEn[b] = true)
    (ht : takeWithin r.mid s.par.lane[b.castSucc].wLr s.apu.side[j] = some (q, rest)) : s.resolveLone r =
      (s.setSide j rest).pairHit r q (if isLeft r.strip then RowHit.ofStraddle r q else RowHit.ofStraddle q r) := by
  simp only [State.resolveLone, straddlePartner_iff.2 h, hen, if_true, ht]

/-- A half row hit whose partner strip is excused from its miss. -/
theorem State.halfHit_excused {why : CodeSet} (h : s.loneReason r = why) (hne : why ≠ flagHalfAxle) :
    s.halfHit r = (s.contribution r.strip).routeHit (RowHit.ofLone r why) := by
  simp only [State.halfHit, h, if_neg hne]

theorem State.halfHit_missed (h : s.loneReason r = flagHalfAxle) : s.halfHit r =
    ((s.contribution r.strip).missReport (partnerOf r.strip) r.mid).routeHit (RowHit.ofLone r flagHalfAxle) := by
  simp only [State.halfHit, h, if_true]

theorem State.loneReason_out (h : s.shu[partnerOf r.strip].state.delivers = false) : s.loneReason r = flagStripOut := by
  simp only [State.loneReason, h, Bool.not_false, if_true]

theorem State.loneReason_blind (h : s.shu[partnerOf r.strip].state.delivers = true)
    (hd : s.scu[partnerOf r.strip].disturbedAt r.mid = true) : s.loneReason r = flagTestDisturbed := by
  simp only [State.loneReason, h, hd, Bool.not_true, Bool.false_eq_true, if_false, if_true]

theorem State.loneReason_half (h : s.shu[partnerOf r.strip].state.delivers = true)
    (hd : s.scu[partnerOf r.strip].disturbedAt r.mid = false) : s.loneReason r = flagHalfAxle := by
  simp only [State.loneReason, h, hd, Bool.not_true, Bool.false_eq_true, if_false]

end

theorem execLoneExpiry_due {s : State} {i : Strip} {k : Fin 4} {w : Waiting} (hw : s.apu.side[i][k.val]? = some w)
    (hd : due (some w.expiry) s.siteTime) :
    exec (.loneExpiry i k) s = .next ((s.setSide i (s.apu.side[i].eraseIdx k.val)).resolveLone w.pulse) := by
  have hreached : reached w.expiry s.siteTime = true := expired_iff.2 hd
  refine congrArg Host.Outcome.next ?_
  simp only [hw, hreached, if_true]

/-- Settles O37: the expiry takes the pulse from its buffer; across an enabled boundary the first pulse in reach straddles with it;
otherwise the partner strip's state says why the other side is empty. -/
theorem lonePulsesStraddleOrHalve : Obligations.LonePulsesStraddleOrHalve := by
  refine ⟨fun s i k w hw hd => ?_, ?_⟩
  · rw [execLoneExpiry_due hw hd]
    have hside : upd s.apu.side i (fun _ => s.apu.side[i].eraseIdx k.val) = upd s.apu.side i fun l => l.eraseIdx k.val :=
      upd_congr s.apu.side i rfl
    simp only [State.setSide, hside]
  · intro s r i near astride code half
    have hnear {b : Boundary} {x : Waiting} : within x.pulse.mid r.mid s.par.lane[b.castSucc].wLr = true ↔ near b x := within_iff
    refine ⟨fun hno => ?_, fun b j xs ys x hab hen hside hxs hx hstrip => ?_⟩
    · have hhalf : s.resolveLone r = s.halfHit r := State.resolveLone_half fun b j hab =>
        (hno b j hab).imp_right fun hfar => takeWithin_none fun x hx => mt hnear.1 (hfar x hx)
      intro p gone blind
      have hdel : ¬ gone → s.shu[p].state.delivers = true := fun h => Service.delivers_iff.2 (not_or.1 h)
      rw [hhalf]
      refine ⟨fun hgone => ?_, fun hgone hblind => ?_, fun hgone hblind => ?_⟩
      · have hout : s.shu[p].state.delivers = false :=
          Bool.eq_false_iff.2 fun h => (not_or.2 (Service.delivers_iff.1 h)) hgone
        exact State.halfHit_excused (State.loneReason_out hout) (by decide)
      · exact State.halfHit_excused (State.loneReason_blind (hdel hgone) (Scu.disturbedAt_iff.2 hblind)) (by decide)
      · exact State.halfHit_missed
          (State.loneReason_half (hdel hgone) (Bool.eq_false_iff.2 (mt Scu.disturbedAt_iff.1 hblind)))
    · intro right left t hit
      have hab : Astride b r.strip j := hab
      have htake : takeWithin r.mid s.par.lane[b.castSucc].wLr s.apu.side[j] = some (x.pulse, xs ++ ys) := by
        rw [hside]
        exact takeWithin_first (fun y hy => mt hnear.1 (hxs y hy)) (hnear.2 hx)
      have hhit : (if isLeft r.strip then RowHit.ofStraddle r x.pulse else RowHit.ofStraddle x.pulse r) = hit := by
        cases hl : isLeft r.strip with
        | true =>
          have hright : right = r := if_pos hl
          have hleft : left = x.pulse := if_pos hl
          simp only [if_true, RowHit.ofStraddle_eq, hab.lane_of_left hl]
          simp only [hit, hright, hleft]
          rfl
        | false =>
          have hright : right = x.pulse := if_neg (by rw [hl]; decide)
          have hleft : left = r := if_neg (by rw [hl]; decide)
          simp only [Bool.false_eq_true, if_false, RowHit.ofStraddle_eq, hstrip, hab.lane_of_right hl, hab.rowOf_eq]
          simp only [hit, hright, hleft]
          rfl
      rw [State.resolveLone_straddle hab hen htake, hhit, State.pairHit, hstrip]
      rfl

end Sys2Proof.Machine

namespace Sys2Proof.Machine

/-! ### Lane temperatures after a recomputation (R32, R33) -/

/-- The F values of the VALID probes among q, P0 first. -/
def validFs (q : Vector ProbeUnit 4) : List Int := (q.toList.filter fun u => u.state = .valid).map fun u => u.filt

theorem Ptu.validF_eq (q : Ptu) : q.validF = validFs q.probe := by
  rw [Ptu.validF, validFs]
  induction q.probe.toList with
  | nil => rfl
  | cons u l ih => by_cases h : u.state = .valid <;> simp [h, ih]

/-- A VALID probe gives a mean its F. -/
theorem not_valid_of_validFs_nil {q : Vector ProbeUnit 4} (h : validFs q = []) (m : Probe) : q[m].state ≠ .valid := by
  have hnone : ∀ u ∈ q.toList, u.state ≠ .valid := by simpa [validFs] using h
  exact forall_mem_toList.1 hnone m

section
variable {s : State} {q : Vector ProbeUnit 4} {m : Probe} {l : LaneTemp}

theorem laneRecomputed_mapped (h : q[m].state = .valid) :
    laneRecomputed s q m l = { tl := q[m].filt, validity := .valid, source := .mapped, holdDue := none } := if_pos h

theorem laneRecomputed_mean (h : q[m].state ≠ .valid) (hfs : validFs q ≠ []) : laneRecomputed s q m l =
    { tl := (validFs q).sum / (validFs q).length, validity := .valid, source := .mean, holdDue := none } :=
  (if_neg h).trans (if_pos hfs)

/-- Without a VALID probe a lane keeps what it has or loses its temperature. -/
theorem laneRecomputed_lost (hfs : validFs q = []) : laneRecomputed s q m l =
    if l.validity ≠ .valid then l
    else if 0 < s.par.tempHold then
      { l with
        source := .none, validity := .held, holdDue := some (s.siteTime + BitVec.ofNat 32 (s.par.tempHold * 16000)) }
    else { l with source := .none, validity := .invalid } :=
  (if_neg (not_valid_of_validFs_nil hfs m)).trans (if_neg (not_not.2 hfs))

theorem LaneTemp.lose_eq (l : LaneTemp) (tempHold : Nat) (now : Time) : l.lose tempHold now =
    if l.validity ≠ .valid then l
    else if 0 < tempHold then
      { l with source := .none, validity := .held, holdDue := some (now + BitVec.ofNat 32 (tempHold * 16000)) }
    else { l with source := .none, validity := .invalid } := by
  cases h : l.validity with
  | valid | held | invalid => simp only [LaneTemp.lose, h]; rfl

theorem LaneTemp.recompute_eq (p : Ptu) : l.recompute p m s.par.tempHold s.siteTime = laneRecomputed s p.probe m l := by
  by_cases hm : p.probe[m].state = .valid
  · rw [laneRecomputed_mapped hm, LaneTemp.recompute, if_pos hm]
  · rw [LaneTemp.recompute, if_neg hm, p.validF_eq]
    by_cases hfs : validFs p.probe = []
    · rw [laneRecomputed_lost hfs, hfs, LaneTemp.lose_eq]
      rfl
    · rw [laneRecomputed_mean hm hfs]
      exact if_neg (by rwa [List.isEmpty_iff])

end

theorem State.recomputeLane_eq (s : State) (n : Lane) : s.recomputeLane n = { s with
    ptu := { s.ptu with
      lane := upd s.ptu.lane n fun l => laneRecomputed s s.ptu.probe s.par.lane[n].probeMap l } } := by
  simp only [State.recomputeLane, LaneTemp.recompute_eq]

/-- The lane temperatures that a recomputation of every lane leaves. -/
def State.lanesRecomputed (s : State) : Vector LaneTemp 4 :=
  Vector.ofFn fun n => laneRecomputed s s.ptu.probe s.par.lane[n].probeMap s.ptu.lane[n]

/-- No lane's recomputation reads a lane temperature but its own, so they act at once. -/
theorem State.recomputeLanes_eq (s : State) : s.recomputeLanes = { s with ptu := { s.ptu with lane := s.lanesRecomputed } } := by
  have walk (l : List Lane) (s : State) : l.foldl State.recomputeLane s = { s with
      ptu := { s.ptu with
        lane := l.foldl (fun v n => upd v n (laneRecomputed s s.ptu.probe s.par.lane[n].probeMap)) s.ptu.lane } } := by
    induction l generalizing s with
    | nil => rfl
    | cons n l ih => rw [List.foldl_cons, ih, State.recomputeLane_eq]; rfl
  have hall (n : Lane) : n ∈ allLanes := by revert n; decide
  rw [State.recomputeLanes, walk, foldl_upd _ (by decide), State.lanesRecomputed]
  simp only [hall, if_true]

theorem State.recomputeLanes_lane (s : State) (n : Lane) : s.recomputeLanes.ptu.lane[n] =
    laneRecomputed s s.ptu.probe s.par.lane[n].probeMap s.ptu.lane[n] := by
  rw [State.recomputeLanes_eq]
  exact Vector.getElem_ofFn n.isLt

/-! ### Alarm units (R36 to R38) -/

theorem Alarm.evaluate_comparator (a : Alarm) (beyond back : Bool) :
    a.evaluate .comparator beyond back = { a with event := a.event || beyond } := by
  cases beyond with
  | true => rw [Bool.or_true]; rfl
  | false => rw [Bool.or_false]; rfl

/-- The two latching modes differ in the event of the way back only. -/
theorem Alarm.evaluate_latching (a : Alarm) {m : AlarmMode} (hm : m ≠ .comparator) (beyond back : Bool) :
    a.evaluate m beyond back =
      if a.tripped then
        (if back then { a with tripped := false, event := a.event || decide (m = .twoEvent) } else a)
      else if beyond then { a with tripped := true, event := true } else a := by
  cases m with
  | comparator => exact absurd rfl hm
  | twoEvent => simp only [Alarm.evaluate, decide_true, Bool.or_true]
  | oneEvent => simp only [Alarm.evaluate, reduceCtorEq, decide_false, Bool.or_false]

/-- An alarm unit in its effective mode: COMPARATOR when the limits leave no band, else its own (R36). -/
theorem Alarm.evaluate_effective (a : Alarm) (noBand : Prop) [Decidable noBand] (beyond back : Bool) :
    a.evaluate (if noBand then .comparator else a.mode) beyond back =
      if noBand ∨ a.mode = .comparator then { a with event := a.event || beyond }
      else if a.tripped then
        (if back then { a with tripped := false, event := a.event || decide (a.mode = .twoEvent) } else a)
      else if beyond then { a with tripped := true, event := true } else a := by
  by_cases hb : noBand
  · rw [if_pos hb, if_pos (.inl hb), Alarm.evaluate_comparator]
  · by_cases hm : a.mode = .comparator
    · rw [if_neg hb, if_pos (.inr hm), hm, Alarm.evaluate_comparator, ← hm]
    · rw [if_neg hb, if_neg (not_or.2 ⟨hb, hm⟩), Alarm.evaluate_latching a hm]

/-- Settles O31: every lane's recomputation by the VALID probes, and an alarm unit by its effective mode. -/
theorem lanesAndAlarmsTakeANewF : Obligations.LanesAndAlarmsTakeANewF := by
  refine ⟨?_, ?_, ?_⟩
  · intro s n p fs old lane
    have hlane : lane = laneRecomputed s s.ptu.probe s.par.lane[n].probeMap old := s.recomputeLanes_lane n
    rw [hlane]
    refine ⟨laneRecomputed_mapped, laneRecomputed_mean, fun hfs hv hh => ?_, fun hfs hv hh => ?_, fun hfs hv => ?_⟩
    · rw [laneRecomputed_lost hfs, if_neg (not_not.2 hv), if_pos hh]
    · rw [laneRecomputed_lost hfs, if_neg (not_not.2 hv), if_neg (by omega)]
    · rw [laneRecomputed_lost hfs, if_pos hv]
  · intro s
    rw [State.recomputeLanes_eq]
  · intro a f out comparator latching
    exact ⟨Alarm.evaluate_effective a (a.trip ≤ a.hyst) _ _, Alarm.evaluate_effective a (a.hyst ≤ a.trip) _ _⟩

end Sys2Proof.Machine

namespace Sys2Proof.Machine

/-! ### The next slot (R42, R43) -/

/-- In an ascending list the least element with a property is found. -/
theorem find?_of_least {n : Nat} {p : Fin n → Bool} {l : List (Fin n)} {k : Fin n} (hl : l.Pairwise (· < ·)) (hk : k ∈ l)
    (hp : p k = true) (hleast : ∀ j ∈ l, j < k → p j = false) : l.find? p = some k := by
  induction l with
  | nil => cases hk
  | cons a l ih =>
    obtain ⟨ha, hl⟩ := List.pairwise_cons.1 hl
    obtain rfl | hk := List.mem_cons.1 hk
    · exact List.find?_cons_of_pos hp
    · rw [List.find?_cons_of_neg (Bool.eq_false_iff.1 (hleast a List.mem_cons_self (ha k hk)))]
      exact ih hl hk fun j hj => hleast j (List.mem_cons_of_mem a hj)

theorem mem_slots (k : Fin 4) : k ∈ ([0, 1, 2, 3] : List (Fin 4)) := by revert k; decide

theorem mem_positionsAfter {j k : Fin 4} : j ∈ positionsAfter k ↔ k < j := by revert j k; decide

theorem positionsAfter_ascending (k : Fin 4) : (positionsAfter k).Pairwise (· < ·) := by revert k; decide

theorem firstSlot_least {f : Vector Slot 4} {l : List (Fin 4)} {k : Fin 4} (hl : l.Pairwise (· < ·)) (hk : k ∈ l)
    (hlen : f[k].len ≠ 0) (hleast : ∀ j ∈ l, j < k → f[j].len = 0) : firstSlot f l = some k :=
  find?_of_least hl hk (decide_eq_true hlen) fun j hj hjk => decide_eq_false (not_not.2 (hleast j hj hjk))

/-- The slot that begins is the one that the move to the next slot reaches. -/
theorem Mcs.advance_of_begins {m : Mcs} {frame : Vector Slot 4} {k : Fin 4} (h : m.begins frame k) :
    m.advance = { m with frame := frame, pos := k } := by
  obtain ⟨⟨hpos, hlen, hleast⟩, rfl⟩ | ⟨hnone, rfl, hlen, hleast⟩ := h
  · have hnext : m.nextInFrame = some k := firstSlot_least (positionsAfter_ascending _) (mem_positionsAfter.2 hpos) hlen
      fun j hj => hleast j (mem_positionsAfter.1 hj)
    simp only [Mcs.advance, hnext]
  · have hnext : m.nextInFrame = none := List.find?_eq_none.2 fun j hj => by
      simpa using hnone j (mem_positionsAfter.1 hj)
    have hfirst : m.firstPending = k := by
      rw [Mcs.firstPending, firstSlot_least (by decide) (mem_slots k) hlen fun j _ => hleast j]
      rfl
    simp only [Mcs.advance, hnext, hfirst]

/-! ### The end of a slot and the begin of the next one (R43 to R45) -/

section
variable {s : State}

/-- The ended slot leaves its work's outcome, and then the next slot begins. -/
theorem execSlotBoundary_due {code : BitVec 16} (h : due s.mcs.slotDue s.siteTime) : exec (.slotBoundary code) s =
    .next ({ s.endWork code with mcs := (s.endWork code).mcs.advance } : State).beginSlot :=
  congrArg Host.Outcome.next (if_pos (expired_iff.2 h))

theorem State.endWork_probe {p : Probe} (h : s.mcs.work = .probe p) (code : BitVec 16) :
    s.endWork code = (s.reading p code.toInt).setPrev .probed := by
  simp only [State.endWork, h]

/-- Without a test in flight no sequence is broken (R46). -/
theorem State.breakSequence_noTest (h : s.mcs.flight = none) : s.breakSequence = s := by
  simp only [State.breakSequence, h]

/-- An IDLE slot begins without work. -/
theorem State.beginSlot_idle (hf : s.mcs.flight = none) (hr : s.mcs.frame[s.mcs.pos].rule = .idle) : s.beginSlot = { s with
    mcs := { s.mcs with
      slotDue := some (s.siteTime + BitVec.ofNat 32 (s.mcs.frame[s.mcs.pos].len * 16))
      work := .none } } := by
  have hchoose : s.slotTimed.choose s.slotTimed.mcs.frame[s.slotTimed.mcs.pos].rule = .none := by
    rw [show s.slotTimed.mcs.frame[s.slotTimed.mcs.pos].rule = .idle from hr, State.choose]
  show s.slotTimed.breakSequence.chooseWork = _
  rw [State.breakSequence_noTest (s := s.slotTimed) hf, State.chooseWork, hchoose]
  rfl

/-- A slot that converted a probe ends and an IDLE slot begins. -/
theorem execSlotBoundary_probed {p : Probe} {frame : Vector Slot 4} {k : Fin 4} {code : BitVec 16}
    (hdue : due s.mcs.slotDue s.siteTime) (hw : s.mcs.work = .probe p) (hf : s.mcs.flight = none)
    (hb : s.mcs.begins frame k) (hr : frame[k].rule = .idle) : exec (.slotBoundary code) s = .next
      { s.reading p code.toInt with
        mcs := { s.mcs with
          prev := .probed
          frame := frame
          pos := k
          slotDue := some (s.siteTime + BitVec.ofNat 32 (frame[k].len * 16))
          work := .none } } := by
  obtain ⟨htime, -, -, -, hmcs, -⟩ := s.reading_frame p code.toInt
  have hadv : ((s.reading p code.toInt).setPrev .probed).mcs.advance =
      { s.mcs with prev := .probed, frame := frame, pos := k } := by
    rw [State.setPrev, hmcs]
    exact Mcs.advance_of_begins (m := { s.mcs with prev := .probed }) hb
  rw [execSlotBoundary_due hdue, State.endWork_probe hw, hadv]
  refine (congrArg Host.Outcome.next (State.beginSlot_idle (by exact hf) (by exact hr))).trans ?_
  rw [← htime]
  rfl

end

/-! ### A probe's reading by its state (R23 to R26, R28 to R30) -/

theorem inRange_iff {r : Int} : inRange r = true ↔ -800 ≤ r ∧ r ≤ 1600 := by
  rw [inRange, Bool.and_eq_true, decide_eq_true_iff, decide_eq_true_iff]

theorem State.updProbe_updProbe (s : State) (p : Probe) (f g : ProbeUnit → ProbeUnit) :
    (s.updProbe p f).updProbe p g = s.updProbe p fun u => g (f u) := by
  simp only [State.updProbe, upd_upd]

/-- The reading is stored and the probe's unit moves by f. -/
def State.probeRead (s : State) (p : Probe) (r : Int) (f : ProbeUnit → ProbeUnit) : State :=
  s.updProbe p fun u => f { u with last := r }

/-- The reading is stored, the probe's unit moves by f, and its new F moves minimum, maximum, alarm units and lanes. -/
def State.probeNewF (s : State) (p : Probe) (r f : Int) (g : ProbeUnit → ProbeUnit) : State :=
  (s.probeRead p r fun u => (g u).newF f).recomputeLanes

section
variable {s : State} {p : Probe} {r : Int}

theorem State.probeRead_updProbe (f g : ProbeUnit → ProbeUnit) :
    (s.probeRead p r f).updProbe p g = s.probeRead p r fun u => g (f u) := s.updProbe_updProbe p _ g

theorem State.probeRead_newF (f : Int) (g : ProbeUnit → ProbeUnit) : (s.probeRead p r g).newF p f = s.probeNewF p r f g := by
  rw [State.newF, State.probeRead_updProbe]
  rfl

theorem State.probeRead_probe (f : ProbeUnit → ProbeUnit) : (s.probeRead p r f).ptu.probe[p] = f { s.ptu.probe[p] with last := r } :=
  upd_same s.ptu.probe p _

theorem State.probeRead_congr {f g : ProbeUnit → ProbeUnit}
    (h : f { s.ptu.probe[p] with last := r } = g { s.ptu.probe[p] with last := r }) :
    s.probeRead p r f = s.probeRead p r g := by
  have hupd := upd_congr s.ptu.probe p (f := fun u => f { u with last := r }) (g := fun u => g { u with last := r }) h
  simp only [State.probeRead, State.updProbe, hupd]

theorem State.reading_disabled (h : s.ptu.probe[p].state = .disabled) : s.reading p r = s := by
  simp only [State.reading, h]

theorem State.reading_unknown (h : s.ptu.probe[p].state = .unknown) :
    s.reading p r = (s.probeRead p r id).readUnknown p r := by
  simp only [State.reading, h]; rfl

theorem State.reading_valid (h : s.ptu.probe[p].state = .valid) : s.reading p r = (s.probeRead p r id).readValid p r := by
  simp only [State.reading, h]; rfl

theorem State.reading_fault (h : s.ptu.probe[p].state = .fault) : s.reading p r = (s.probeRead p r id).readFault p r := by
  simp only [State.reading, h]; rfl

theorem State.reading_unknown_inside (hst : s.ptu.probe[p].state = .unknown) (hin : -800 ≤ r ∧ r ≤ 1600) :
    s.reading p r = s.probeNewF p r r fun u => { u with state := .valid, spikeRun := 0, outRun := 0 } := by
  rw [State.reading_unknown hst, State.readUnknown, if_pos (inRange_iff.2 hin), State.probeRead_updProbe,
    State.probeRead_newF]
  rfl

theorem State.reading_unknown_outside (hst : s.ptu.probe[p].state = .unknown) (hout : ¬ (-800 ≤ r ∧ r ≤ 1600)) :
    s.reading p r = s.probeRead p r fun u =>
      if u.outRun + 1 < 2 then { u with outRun := u.outRun + 1 } else { u.toFault with spikeRun := u.spikeRun } := by
  rw [State.reading_unknown hst, State.readUnknown, if_neg (mt inRange_iff.1 hout), State.probeRead_probe,
    State.probeRead_updProbe, State.probeRead_updProbe]
  by_cases hrun : s.ptu.probe[p].outRun + 1 < 2
  · exact (if_pos hrun).trans (State.probeRead_congr (if_pos hrun).symm)
  · exact (if_neg hrun).trans (State.probeRead_congr (if_neg hrun).symm)

/-- A VALID probe's reading in range: accepted, or a spike, the third of which is accepted as it is (R28, R29). -/
theorem State.reading_valid_inside (hst : s.ptu.probe[p].state = .valid) (hin : -800 ≤ r ∧ r ≤ 1600) : s.reading p r =
    if |r - s.ptu.probe[p].filt| ≤ 32 then
      s.probeNewF p r (filterStep s.ptu.probe[p].filt r) fun u => { u with outRun := 0, spikeRun := 0 }
    else if s.ptu.probe[p].spikeRun + 1 < 3 then
      s.probeRead p r fun u => { u with outRun := 0, spikeRun := u.spikeRun + 1 }
    else s.probeNewF p r r fun u => { u with outRun := 0, spikeRun := 0 } := by
  simp only [State.reading_valid hst, State.readValid, if_pos (inRange_iff.2 hin), State.probeRead_probe,
    State.probeRead_updProbe, State.probeRead_newF]
  rfl

theorem State.reading_valid_outside (hst : s.ptu.probe[p].state = .valid) (hout : ¬ (-800 ≤ r ∧ r ≤ 1600)) : s.reading p r =
    if s.ptu.probe[p].outRun + 1 < 2 then s.probeRead p r fun u => { u with outRun := u.outRun + 1 }
    else (s.probeRead p r ProbeUnit.toFault).recomputeLanes := by
  simp only [State.reading_valid hst, State.readValid, if_neg (mt inRange_iff.1 hout), State.probeRead_probe,
    State.probeRead_updProbe]
  rfl

theorem State.reading_fault_outside (hst : s.ptu.probe[p].state = .fault) (hout : ¬ (-800 ≤ r ∧ r ≤ 1600)) :
    s.reading p r = s.probeRead p r fun u => { u with inRun := 0 } := by
  rw [State.reading_fault hst, State.readFault, if_neg (mt inRange_iff.1 hout), State.probeRead_updProbe]
  rfl

theorem State.reading_fault_inside (hst : s.ptu.probe[p].state = .fault) (hin : -800 ≤ r ∧ r ≤ 1600) : s.reading p r =
    if s.ptu.probe[p].inRun + 1 < 2 then s.probeRead p r fun u => { u with inRun := u.inRun + 1 }
    else s.probeNewF p r r fun u => { u with state := .valid, inRun := 0, outRun := 0, spikeRun := 0 } := by
  rw [State.reading_fault hst, State.readFault, if_pos (inRange_iff.2 hin), State.probeRead_probe,
    State.probeRead_updProbe, State.probeRead_updProbe, State.probeRead_newF]
  rfl

end

/-- Settles O30: the boundary hands the reading over and moves to the IDLE slot; the reading acts by the probe's state. -/
theorem probeSlotHandsOverItsReading : Obligations.ProbeSlotHandsOverItsReading := by
  intro s p frame k code hdue hw hf hb hr r u inside leaves read newF failed
  have hleaves {t : State} (ht : s.reading p r = t) : leaves t :=
    ⟨ht, by rw [execSlotBoundary_probed hdue hw hf hb hr, show s.reading p code.toInt = t from ht]⟩
  have hspike : |r - u.filt| ≤ 32 ↔ ¬ 32 < (r - u.filt).natAbs := by rw [Int.abs_eq_natAbs]; omega
  have hfirst {n : Nat} (h : n = 0) : n + 1 < 2 := by omega
  have hagain {n : Nat} (h : 1 ≤ n) : ¬ n + 1 < 2 := by omega
  refine ⟨fun hst => hleaves (State.reading_disabled hst), fun hst hin => hleaves (State.reading_unknown_inside hst hin),
    fun hst hout => hleaves (State.reading_unknown_outside hst hout), fun hst hin hnear => hleaves ?_,
    fun hst hin hfar hrun => hleaves ?_, fun hst hin hfar hrun => hleaves ?_, fun hst hout hrun => hleaves ?_,
    fun hst hout hrun => hleaves ?_, fun hst hout => hleaves (State.reading_fault_outside hst hout),
    fun hst hin hrun => hleaves ?_, fun hst hin hrun => hleaves ?_⟩
  · exact (State.reading_valid_inside hst hin).trans (if_pos (hspike.2 (not_lt.2 hnear)))
  · exact (State.reading_valid_inside hst hin).trans
      ((if_neg fun h => hspike.1 h hfar).trans (if_pos (Nat.succ_lt_succ hrun)))
  · exact (State.reading_valid_inside hst hin).trans
      ((if_neg fun h => hspike.1 h hfar).trans (if_neg (not_lt.2 (Nat.succ_le_succ hrun))))
  · refine (State.reading_valid_outside hst hout).trans ((if_pos (hfirst hrun)).trans ?_)
    exact State.probeRead_congr (g := fun u => { u with outRun := 1 }) (by rw [show s.ptu.probe[p].outRun = 0 from hrun])
  · exact (State.reading_valid_outside hst hout).trans (if_neg (hagain hrun))
  · refine (State.reading_fault_inside hst hin).trans ((if_pos (hfirst hrun)).trans ?_)
    exact State.probeRead_congr (g := fun u => { u with inRun := 1 }) (by rw [show s.ptu.probe[p].inRun = 0 from hrun])
  · exact (State.reading_fault_inside hst hin).trans (if_neg (hagain hrun))

end Sys2Proof.Machine

namespace Sys2Proof.Machine

/-! ### Written parameters of a probe and of a boundary (R207) -/

/-- The value of a probe parameter after a write of its probe. -/
theorem paramValue_probe (s : State) (p : Probe) (f : ProbeUnit → ProbeUnit) (q : Param) (g : ProbeUnit → Int)
    (hq : ∀ t : State, t.paramValue q p.val = g t.ptu.probe[Fin.ofNat 4 p.val]) :
    (s.updProbe p f).paramValue q p.val = g (f s.ptu.probe[p]) := by
  simp only [hq, Fin.ofNat_val_eq_self]
  exact congrArg g (upd_same s.ptu.probe p f)

theorem paramValue_probeEn (s : State) (p : Probe) :
    s.paramValue .probeEn p.val = bit 1 (s.ptu.probe[p].state ≠ .disabled) := by
  simp only [State.paramValue, Fin.ofNat_val_eq_self]

theorem paramValue_probeMap (s : State) (n : Lane) : s.paramValue .probeMap n.val = s.par.lane[n].probeMap.val := by
  simp only [State.paramValue, Fin.ofNat_val_eq_self]

theorem paramValue_straddleEn (s : State) (b : Boundary) : s.paramValue .straddleEn b.val = bit 1 s.par.straddleEn[b] := by
  simp only [State.paramValue, Fin.ofNat_val_eq_self]

section
variable {s : State} {x : Xfer} (h : s.taker x.addr = .addressed)
include h

/-- A PARAM_WRITE with a value that its owner refuses (R207 step 3). -/
theorem paramCommand_refuses {q : Param} {k : Nat} {v : BitVec 32} {apply : Applier} (hk : k < (paramScope q).size)
    (hq : s.quietFor (paramScope q) k = true) (ha : ∀ u : State, apply k v.toInt u = none) :
    paramCommand q apply x (written k v) s =
      .next (s.answered s (xferBytes x (q.id :: written k v)) 0x02 .badValue []) := by
  have hk' : u8 (written k v) 0 = k := by
    have := Scope.size_le (paramScope q)
    rw [u8_written]
    omega
  have hbad : ¬ ((written k v).length ≠ 5 ∨ (paramScope q).size ≤ k) := by
    rw [written_length]
    omega
  have hbusy (n : Nat) : ¬ (!(s.drive n).quietFor (paramScope q) k) = true := by
    rw [show (s.drive n).quietFor (paramScope q) k = true from hq]
    decide
  refine addressedCommand_refuses h ?_
  simp only [paramWrite, hk', if_neg hbad, if_neg (hbusy _), s32_written, ha]

/-- A parameter of a probe's unit is stored (R207). -/
theorem probeCommand_answers {q : Param} {p : Probe} {v : BitVec 32} {apply : Applier} {w : Int} {f : ProbeUnit → ProbeUnit}
    (hq : paramScope q = .probe) (ha : ∀ u : State, apply p.val v.toInt u = some (u.updProbe (Fin.ofNat 4 p.val) f))
    (hw : (s.updProbe p f).paramValue q p.val = w) :
    paramCommand q apply x (written p.val v) s =
      .next (s.answered (s.updProbe p f) (xferBytes x (q.id :: written p.val v)) 0x02 .ok (valueOf q p.val w)) := by
  refine paramCommand_answers h (by rw [hq]; exact p.isLt) (by rw [hq]; rfl) ?_ hw
  rw [ha, Fin.ofNat_val_eq_self]
  rfl

end

/-! ### Alarm units (R36) -/

theorem modeOf_code (m : AlarmMode) : modeOf m.code = some m := by cases m <;> decide

theorem modeOf_unknown {v : Int} (h : v < 0 ∨ 2 < v) : modeOf v = none := by
  rw [modeOf, if_neg (by omega), if_neg (by omega), if_neg (by omega)]

theorem applyHotMode_code {v : Int} {m : AlarmMode} (h : v = m.code) (k : Nat) (s : State) :
    applyHotMode k v s = some (updHot (fun a => { a with mode := m }) k s) := by
  rw [applyHotMode, h, modeOf_code]
  rfl

theorem applyColdMode_code {v : Int} {m : AlarmMode} (h : v = m.code) (k : Nat) (s : State) :
    applyColdMode k v s = some (updCold (fun a => { a with mode := m }) k s) := by
  rw [applyColdMode, h, modeOf_code]
  rfl

/-- Settles O20: each write moves one unit of its probe, a limit clamped and a mode by its code. -/
theorem alarmWritesArmTheUnit : Obligations.AlarmWritesArmTheUnit := by
  intro s x p v h w result refused
  refine ⟨?_, ?_, ?_, ?_, fun m hm => ⟨?_, ?_⟩, fun hv => ⟨?_, ?_⟩⟩
  · exact probeCommand_answers h rfl (fun _ => rfl) (paramValue_probe s p _ .hotTo (fun u => u.hot.trip) fun _ => rfl)
  · exact probeCommand_answers h rfl (fun _ => rfl) (paramValue_probe s p _ .hotTh (fun u => u.hot.hyst) fun _ => rfl)
  · exact probeCommand_answers h rfl (fun _ => rfl) (paramValue_probe s p _ .coldTo (fun u => u.cold.trip) fun _ => rfl)
  · exact probeCommand_answers h rfl (fun _ => rfl) (paramValue_probe s p _ .coldTh (fun u => u.cold.hyst) fun _ => rfl)
  · exact probeCommand_answers h rfl (applyHotMode_code hm _)
      (paramValue_probe s p _ .hotMode (fun u => u.hot.mode.code) fun _ => rfl)
  · exact probeCommand_answers h rfl (applyColdMode_code hm _)
      (paramValue_probe s p _ .coldMode (fun u => u.cold.mode.code) fun _ => rfl)
  · exact paramCommand_refuses h p.isLt rfl fun u => by rw [applyHotMode, modeOf_unknown hv]; rfl
  · exact paramCommand_refuses h p.isLt rfl fun u => by rw [applyColdMode, modeOf_unknown hv]; rfl

/-! ### STRADDLE_EN (R80) -/

theorem quietFor_boundary {s : State} {b : Boundary} (h : s.quiet b.castSucc = true) (h' : s.quiet b.succ = true) :
    s.quietFor .boundary b.val = true := by
  have hlanes : ∀ c : Boundary, Fin.ofNat 4 c.val = c.castSucc ∧ Fin.ofNat 4 (c.val + 1) = c.succ := by decide
  obtain ⟨hleft, hright⟩ := hlanes b
  rw [State.quietFor, hleft, hright, h, h']
  rfl

theorem applyStraddleEn_eq (b : Boundary) (v : Int) (s : State) : applyStraddleEn b.val v s =
    some { s with par := { s.par with straddleEn := upd s.par.straddleEn b fun _ => decide (0 < v) } } := by
  rw [applyStraddleEn, Fin.ofNat_val_eq_self]
  rfl

theorem bit_one_decide (c : Prop) [Decidable c] : ((bit 1 (decide c) : Nat) : Int) = if c then 1 else 0 := by
  by_cases hc : c
  · rw [decide_eq_true hc, if_pos hc]; rfl
  · rw [decide_eq_false hc, if_neg hc]; rfl

section
variable {s : State} {x : Xfer} {v : BitVec 32} (h : s.taker x.addr = .addressed)
include h

theorem straddleEn_answers {b : Boundary} (hl : s.quiet b.castSucc = true) (hr : s.quiet b.succ = true) :
    exec (.straddleEn x (written b.val v)) s = .next (s.answered
      { s with par := { s.par with straddleEn := upd s.par.straddleEn b fun _ => decide (0 < v.toInt) } }
      (xferBytes x (Param.straddleEn.id :: written b.val v)) 0x02 .ok
      (valueOf .straddleEn b.val (if 0 < v.toInt then 1 else 0))) := by
  refine paramCommand_answers h b.isLt (quietFor_boundary hl hr) (applyStraddleEn_eq b v.toInt (s.drive _)) ?_
  rw [paramValue_straddleEn, upd_same, bit_one_decide]

end

/-! ### PROBE_MAP (R34) -/

section
variable {s : State} {n : Lane} {p : Probe} {v : Int} (hv : (max 0 (min v 3)).toNat = p.val)
include hv

theorem probeOf_clamp : (Fin.ofNat 4 (clampNat 0 3 v) : Probe) = p := by
  rw [show clampNat 0 3 v = p.val from hv, Fin.ofNat_val_eq_self]

theorem applyProbeMap_same (h : p = s.par.lane[n].probeMap) : applyProbeMap n.val v s = some s := by
  simp only [applyProbeMap, probeOf_clamp hv, Fin.ofNat_val_eq_self, if_pos h]

/-- The lane recomputes from the newly mapped probe. -/
theorem applyProbeMap_changes (h : p ≠ s.par.lane[n].probeMap) : applyProbeMap n.val v s = some { s with
    par := { s.par with lane := upd s.par.lane n fun l => { l with probeMap := p } }
    ptu := { s.ptu with lane := upd s.ptu.lane n fun l => laneRecomputed s s.ptu.probe p l } } := by
  simp only [applyProbeMap, probeOf_clamp hv, Fin.ofNat_val_eq_self, if_neg h, State.recomputeLane_eq]
  simp only [State.updLanePar, State.updPar, upd_same]
  rfl

end

/-! ### PROBE_EN (R27) -/

/-- A probe's unit when it is disabled. -/
def ProbeUnit.stopped (u : ProbeUnit) : ProbeUnit := { u with state := .disabled, outRun := 0, inRun := 0, spikeRun := 0 }

section
variable {s : State} {p : Probe} {v : Int}

theorem applyProbeEn_off (h : s.ptu.probe[p].state ≠ .disabled) (hv : v ≤ 0) : applyProbeEn p.val v s =
    some (if s.ptu.probe[p].state = .valid then (s.updProbe p ProbeUnit.stopped).recomputeLanes
      else s.updProbe p ProbeUnit.stopped) := by
  have hon : ¬ 0 < v := by omega
  simp only [applyProbeEn, Fin.ofNat_val_eq_self, h, hon, ne_eq, not_false_eq_true, decide_false, Bool.false_eq_true,
    eq_iff_iff, not_true_eq_false, if_false, false_iff]
  rfl

theorem applyProbeEn_on (h : s.ptu.probe[p].state = .disabled) (hv : 0 < v) :
    applyProbeEn p.val v s = some (s.updProbe p fun u => { u with state := .unknown }) := by
  simp only [applyProbeEn, Fin.ofNat_val_eq_self, h, hv, ne_eq, not_true_eq_false, decide_true, eq_iff_iff, iff_false,
    if_true, if_false]

theorem applyProbeEn_same (h : (0 < v) ↔ s.ptu.probe[p].state ≠ .disabled) : applyProbeEn p.val v s = some s := by
  simp only [applyProbeEn, Fin.ofNat_val_eq_self, decide_eq_true_eq, h, if_true]

end

/-- Settles O19: each parameter's hand-over, with a changed value and with the value in force. -/
theorem straddleAndProbeWrites : Obligations.StraddleAndProbeWrites := by
  intro s x v h answer stopped
  refine ⟨fun b hl hr => ⟨fun hne => ?_, fun he => ?_⟩, fun n p hq hv => ⟨fun hne => ?_, fun he => ?_⟩, fun p => ?_⟩
  · have hupd := upd_congr s.par.straddleEn b (f := fun _ => decide (0 < v.toInt)) (g := fun e => !e) (Bool.eq_not.2 hne.symm)
    rw [straddleEn_answers h hl hr, hupd]
  · rw [straddleEn_answers h hl hr, upd_eq_self _ _ _ he.symm]
  · refine paramCommand_answers h n.isLt ?_ (applyProbeMap_changes (s := s.drive _) hv hne) ?_
    · rw [paramScope, State.quietFor, Fin.ofNat_val_eq_self, hq]
    · rw [paramValue_probeMap, upd_same]
  · refine paramCommand_answers (t := s) h n.isLt ?_ (applyProbeMap_same (s := s.drive _) hv he) ?_
    · rw [paramScope, State.quietFor, Fin.ofNat_val_eq_self, hq]
    · rw [paramValue_probeMap, ← he]
  · have hstopped : (s.updProbe p ProbeUnit.stopped).paramValue .probeEn p.val = 0 :=
      paramValue_probe s p _ .probeEn (fun u => bit 1 (u.state ≠ .disabled)) fun _ => rfl
    refine ⟨fun hv hst => ?_, fun hv hst => ?_, fun hv hst => ?_, fun hv hst => ?_, fun hv hst => ?_⟩
    · refine paramCommand_answers h p.isLt rfl
        ((applyProbeEn_off (s := s.drive _) (by rw [State.drive_ptu, hst]; decide) hv).trans ?_) ?_
      · rw [State.drive_ptu, if_pos hst, State.recomputeLanes_eq]
        rfl
      · exact hstopped
    · have hnot : s.ptu.probe[p].state ≠ .disabled ∧ s.ptu.probe[p].state ≠ .valid := by
        obtain hst | hst := hst
        all_goals rw [hst]; decide
      refine paramCommand_answers h p.isLt rfl ((applyProbeEn_off (s := s.drive _) hnot.1 hv).trans ?_) ?_
      · rw [State.drive_ptu, if_neg hnot.2]
        rfl
      · exact hstopped
    · refine paramCommand_answers (t := s) h p.isLt rfl (applyProbeEn_same (s := s.drive _) ?_) ?_
      · exact ⟨fun hc => by omega, fun hc => absurd hst hc⟩
      · rw [paramValue_probeEn, hst]; rfl
    · refine paramCommand_answers h p.isLt rfl (applyProbeEn_on (s := s.drive _) hst hv) ?_
      exact paramValue_probe s p _ .probeEn (fun u => bit 1 (u.state ≠ .disabled)) fun _ => rfl
    · refine paramCommand_answers (t := s) h p.isLt rfl (applyProbeEn_same (s := s.drive _) ?_) ?_
      · exact ⟨fun _ => hst, fun _ => hv⟩
      · rw [paramValue_probeEn, decide_eq_true hst]; rfl

/-! ### TEMP_STATUS (R31, R36, R209) -/

/-- Blocks of one length stand one behind the other. -/
theorem block_of_flatMap {α β : Type} {f : α → List β} {m : Nat} (hf : ∀ a, (f a).length = m) {l : List α} {k : Nat}
    (hk : k < l.length) (rest : List β) : ((l.flatMap f ++ rest).drop (m * k)).take m = f l[k] := by
  induction l generalizing k with
  | nil => cases hk
  | cons a l ih =>
    rw [List.flatMap_cons, List.append_assoc]
    cases k with
    | zero => exact List.take_left' (hf a)
    | succ k =>
      rw [Nat.mul_succ, Nat.add_comm, ← List.drop_drop, List.drop_left' (hf a)]
      exact ih (Nat.lt_of_succ_lt_succ hk)

theorem length_flatMap_of_blocks {α β : Type} {f : α → List β} {m : Nat} (hf : ∀ a, (f a).length = m) (l : List α) :
    (l.flatMap f).length = m * l.length := by
  simp only [List.length_flatMap, hf, List.map_const', List.sum_replicate, smul_eq_mul, Nat.mul_comm]

theorem ProbeUnit.bytes_length (u : ProbeUnit) : u.bytes.length = 11 := rfl

theorem LaneTemp.bytes_length (l : LaneTemp) : l.bytes.length = 3 := rfl

theorem probeBlocks_length (q : Ptu) : (q.probe.toList.flatMap ProbeUnit.bytes).length = 44 := by
  rw [length_flatMap_of_blocks ProbeUnit.bytes_length, Vector.length_toList]

theorem laneBlocks_length (q : Ptu) : (q.lane.toList.flatMap LaneTemp.bytes).length = 12 := by
  rw [length_flatMap_of_blocks LaneTemp.bytes_length, Vector.length_toList]

theorem tempStatusBytes_probe (q : Ptu) (p : Probe) : ((tempStatusBytes q).drop (11 * p.val)).take 11 = q.probe[p].bytes :=
  block_of_flatMap ProbeUnit.bytes_length (by rw [Vector.length_toList]; exact p.isLt) _

theorem tempStatusBytes_lane (q : Ptu) (n : Lane) : ((tempStatusBytes q).drop (44 + 3 * n.val)).take 3 = q.lane[n].bytes := by
  rw [tempStatusBytes, ← List.drop_drop, List.drop_left' (probeBlocks_length q),
    ← List.append_nil (q.lane.toList.flatMap LaneTemp.bytes)]
  exact block_of_flatMap LaneTemp.bytes_length (by rw [Vector.length_toList]; exact n.isLt) []

/-- The code of an alarm unit's effective mode (R36). -/
theorem effectiveMode_code (a : AlarmMode) (noBand : Prop) [Decidable noBand] :
    (if noBand then AlarmMode.comparator else a).code =
      if decide noBand = true then 0 else match a with | .comparator => 0 | .twoEvent => 1 | .oneEvent => 2 := by
  by_cases h : noBand
  · rw [if_pos h, if_pos (decide_eq_true h)]; rfl
  · rw [if_neg h, if_neg (by simpa using h)]; rfl

theorem tempStatus_empty (s : State) : tempStatus [] s = accept (tempStatusBytes s.ptu)
    { s with ptu := { s.ptu with probe := mapAll s.ptu.probe ProbeUnit.seen } } := by
  simp only [tempStatus, whenEmpty, if_true]

/-- Settles O11: the answer of an empty payload, and the layout block by block. -/
theorem tempStatusReportsAndClears : Obligations.TempStatusReportsAndClears := by
  refine ⟨?_, ?_, ?_, ?_⟩
  · intro s x h
    exact addressedCommand_answers h (tempStatus_empty _)
  · intro q
    rw [tempStatusBytes, List.length_append, probeBlocks_length, laneBlocks_length]
  · intro q p hot cold effective
    rw [tempStatusBytes_probe, ProbeUnit.bytes, Alarm.hotMode, Alarm.coldMode, effectiveMode_code, effectiveMode_code]
    rfl
  · intro q n
    rw [tempStatusBytes_lane, LaneTemp.bytes]
    cases q.lane[n].source <;> rfl

end Sys2Proof.Machine

namespace Sys2Proof.Machine

/-! ### The pending frame (R42) -/

/-- A change of one slot leaves a length above 0: the slot's own new one, or that of another slot. -/
theorem someLength_upd_iff (f : Vector Slot 4) (n : Fin 4) (g : Slot → Slot) :
    someLength (upd f n g) = true ↔ (g f[n]).len ≠ 0 ∨ ∃ k : Fin 4, k ≠ n ∧ f[k].len ≠ 0 := by
  rw [someLength_iff]
  constructor
  · rintro ⟨k, hk⟩
    rw [upd_get] at hk
    by_cases hkn : n = k
    · subst hkn
      exact .inl (by simpa using hk)
    · exact .inr ⟨k, Ne.symm hkn, by simpa [hkn] using hk⟩
  · rintro (h | ⟨k, hne, hk⟩)
    · exact ⟨n, by rwa [upd_same]⟩
    · exact ⟨k, by rwa [upd_get, if_neg hne.symm]⟩

/-- A site parameter's value that its owner refuses (R207 step 3). -/
theorem siteCommand_refuses {s : State} {x : Xfer} (h : s.taker x.addr = .addressed) {q : Param} {v : BitVec 32}
    {apply : Applier} (hq : paramScope q = .site) (ha : apply 0 v.toInt (s.drive (xferBytes x (q.id :: written 0 v))) = none) :
    paramCommand q apply x (written 0 v) s =
      .next (s.answered s (xferBytes x (q.id :: written 0 v)) 0x02 .badValue []) := by
  refine addressedCommand_refuses h ?_
  have hbad : ¬ ((written 0 v).length ≠ 5 ∨ Scope.size .site ≤ 0) := by
    rw [written_length]
    decide
  simp only [paramWrite, u8_written, Nat.zero_mod, hq, if_neg hbad, State.quietFor, s32_written, ha]
  rfl

theorem ruleOf_code (r : SlotRule) : ruleOf r.code = some r := by cases r <;> decide

theorem ruleOf_unknown {v : Int} (h : v < 0 ∨ 4 < v) : ruleOf v = none := by
  rw [ruleOf, if_neg (by omega), if_neg (by omega), if_neg (by omega), if_neg (by omega), if_neg (by omega)]

/-- Settles O21: a length is refused exactly when no length above 0 is left, a rule exactly when its code names none. -/
theorem slotWritesChangeThePendingFrame : Obligations.SlotWritesChangeThePendingFrame := by
  intro s x n v h len pending bytes
  have hleft := someLength_upd_iff s.mcs.pendingFrame n fun k => { k with len := len }
  refine ⟨fun hlen => ?_, fun ⟨hzero, hothers⟩ => ?_, fun r hr => ?_, fun hv => ?_⟩
  · refine paramCommand_answers h Nat.one_pos rfl (if_pos (hleft.2 hlen)) ?_
    simp only [State.paramValue, pending, upd_same]
  · have hnone : ¬ (len ≠ 0 ∨ ∃ k : Fin 4, k ≠ n ∧ s.mcs.pendingFrame[k].len ≠ 0) := by
      rintro (hne | ⟨k, hkn, hk⟩)
      · exact hne hzero
      · exact hk (hothers k hkn)
    exact siteCommand_refuses h rfl (if_neg (mt hleft.1 hnone))
  · refine paramCommand_answers h Nat.one_pos rfl (by rw [applySlotRule, hr, ruleOf_code]; rfl) ?_
    simp only [State.paramValue, pending, upd_same]
  · exact siteCommand_refuses h rfl <| by rw [applySlotRule, ruleOf_unknown hv]; rfl

end Sys2Proof.Machine

namespace Sys2Proof.Machine

/-! ### TEST_PERIOD and ATTN_MASK (R50, R205) -/

theorem State.nextPeriod_stopped {s : State} (h : s.par.testPeriod = 0) : s.nextPeriod = none :=
  if_neg (by omega)

theorem State.nextPeriod_running {s : State} (h : s.par.testPeriod ≠ 0) :
    s.nextPeriod = some (s.siteTime + BitVec.ofNat 32 (s.par.testPeriod * 960000)) :=
  if_pos (Nat.pos_of_ne_zero h)

/-- A value in the range of the mask is the byte stored. -/
theorem byte_mask {v : Int} (h : 0 ≤ v) : byte v.toNat = BitVec.ofInt 8 v := by
  obtain ⟨n, rfl⟩ := Int.eq_ofNat_of_zero_le h
  exact (BitVec.ofInt_natCast 8 n).symm

theorem ofInt_mask_toNat {v : Int} (h : 0 ≤ v) (h' : v < 64) : ((BitVec.ofInt 8 v).toNat : Int) = v := by
  rw [← byte_mask h, byte_toNat]
  omega

section
variable {s : State} {v : Int} {k : Nat}

/-- A written period sets all sixteen timers, unless they run on (R50). -/
theorem applyTestPeriod_sets {due : Option Time} (h : clampNat 0 1440 v = 0 ∨ s.par.testPeriod = 0)
    (hd : (s.updPar fun p => { p with testPeriod := clampNat 0 1440 v }).nextPeriod = due) : applyTestPeriod k v s = some
      { s with
        par := { s.par with testPeriod := clampNat 0 1440 v }
        mcs := { s.mcs with strip := mapAll s.mcs.strip fun t => { t with periodicDue := due } } } := by
  subst hd
  exact if_neg fun hrun => h.elim hrun.1 hrun.2

theorem applyTestPeriod_runsOn (h : clampNat 0 1440 v ≠ 0) (h' : s.par.testPeriod ≠ 0) : applyTestPeriod k v s = some
    { s with par := { s.par with testPeriod := clampNat 0 1440 v } } :=
  if_pos ⟨h, h'⟩

/-- A mask of six bits is stored (R205). -/
theorem applyAttnMask_takes (h : 0 ≤ v) (h' : v < 64) : applyAttnMask k v s = some
    { s with par := { s.par with attnMask := BitVec.ofInt 8 v } } := by
  rw [← byte_mask h]
  exact if_pos ⟨h, h'⟩

end

/-- Settles O22: the timers follow the new period unless they run and go on; the mask is refused outside its six bits. -/
theorem periodAndMaskWrites : Obligations.PeriodAndMaskWrites := by
  intro s x v h m timers answer
  refine ⟨fun hm => ?_, fun hm hstop => ?_, fun hm hrun => ?_, fun hlow hhigh => ?_, fun hout => ?_⟩
  · exact paramCommand_answers h Nat.one_pos rfl
      (applyTestPeriod_sets (s := s.drive _) (.inl hm) (State.nextPeriod_stopped hm)) rfl
  · exact paramCommand_answers h Nat.one_pos rfl
      (applyTestPeriod_sets (s := s.drive _) (.inr hstop) (State.nextPeriod_running hm)) rfl
  · exact paramCommand_answers h Nat.one_pos rfl (applyTestPeriod_runsOn (s := s.drive _) hm hrun) rfl
  · exact paramCommand_answers h Nat.one_pos rfl (applyAttnMask_takes (s := s.drive _) hlow hhigh)
      (ofInt_mask_toNat hlow hhigh)
  · exact siteCommand_refuses h rfl (if_neg (by omega))

end Sys2Proof.Machine

namespace Sys2Proof.Machine

/-! ### Lane quiet (R51) -/

theorem mem_laneStrips_iff {i : Strip} {n : Lane} : i ∈ laneStrips n ↔ laneOf i = n := by revert i n; decide

/-- A strip does not stand in the way of lane quiet; a pulse end out of reach is further back than the quiet time. -/
theorem State.stripBusy_false_iff (s : State) (i : Strip) : s.stripBusy i = false ↔
    s.scu[i].pulse = none ∧ s.scu[i].standing = none ∧ s.apu.side[i] = [] ∧
      ∀ t, s.scu[i].lastEnd = some t → 3200 ≤ (s.siteTime - t).toNat ∨ 2147483648 ≤ (s.siteTime - t).toNat := by
  cases hl : s.scu[i].lastEnd with
  | none =>
    simp only [State.stripBusy, hl]
    simp [and_assoc]
  | some t =>
    have hfar : ¬ elapsed t s.siteTime < 3200 ↔
        3200 ≤ (s.siteTime - t).toNat ∨ 2147483648 ≤ (s.siteTime - t).toNat := by
      rw [elapsed]
      omega
    simp only [State.stripBusy, hl, Bool.or_eq_false_iff, decide_eq_false_iff_not, hfar, Option.some.injEq, forall_eq']
    simp [and_assoc]

theorem State.quiet_iff (s : State) (n : Lane) : s.quiet n = true ↔
    (∀ i : Strip, laneOf i = n → s.stripBusy i = false) ∧ s.apu.queue[n] = [] ∧ s.vau.lane[n].ctx = .empty := by
  simp [State.quiet, mem_laneStrips_iff, and_assoc]

/-! ### The checks before the value (R207 steps 1 and 2) -/

/-- The row of a parameter is a PARAM_WRITE with the parameter's own rule. -/
theorem exec_paramCommand (p : Param) (x : Xfer) (rest : List Byte) (s : State) :
    exec (p.command x rest) s = paramCommand p (paramApplier p) x rest s := by
  cases p <;> rfl

theorem paramWrite_badPayload {p : Param} {apply : Applier} {rest : List Byte} {s : State}
    (h : rest.length ≠ 5 ∨ (paramScope p).size ≤ u8 rest 0) : paramWrite p apply rest s = refuse .badValue s :=
  if_pos h

theorem paramWrite_busy {p : Param} {apply : Applier} {rest : List Byte} {s : State} (hlen : rest.length = 5)
    (hk : u8 rest 0 < (paramScope p).size) (hq : s.quietFor (paramScope p) (u8 rest 0) = false) :
    paramWrite p apply rest s = refuse .laneBusy s := by
  have hgood : ¬ (rest.length ≠ 5 ∨ (paramScope p).size ≤ u8 rest 0) := by omega
  exact (if_neg hgood).trans (if_pos (by rw [hq]; rfl))

/-- The index byte of a payload names an index of a scope. -/
theorem u8_index {rest : List Byte} {k : Nat} (h : rest.getD 0 0 = byte k) (hk : k < 256) : u8 rest 0 = k := by
  rw [u8, h, byte_toNat, Nat.mod_eq_of_lt hk]

theorem quietFor_lane (s : State) (n : Lane) : s.quietFor .lane n.val = s.quiet n := by
  rw [State.quietFor, Fin.ofNat_val_eq_self]

theorem quietFor_strip (s : State) (i : Strip) : s.quietFor .strip i.val = s.quiet (laneOf i) := by
  rw [State.quietFor, Fin.ofNat_val_eq_self]

theorem quietFor_boundary_eq (s : State) (b : Boundary) :
    s.quietFor .boundary b.val = (s.quiet b.castSucc && s.quiet b.succ) := by
  have hlanes : ∀ c : Boundary, Fin.ofNat 4 c.val = c.castSucc ∧ Fin.ofNat 4 (c.val + 1) = c.succ := by decide
  obtain ⟨hleft, hright⟩ := hlanes b
  rw [State.quietFor, hleft, hright]

/-- A PARAM_WRITE for a lane that is not quiet (R207 step 2). -/
theorem exec_paramCommand_busy {s : State} {x : Xfer} {p : Param} {rest : List Byte} {c : Scope} {k : Nat}
    (h : s.taker x.addr = .addressed) (hlen : rest.length = 5) (hindex : rest.getD 0 0 = byte k) (hc : paramScope p = c)
    (hk : k < c.size) (hq : s.quietFor c k = false) : exec (p.command x rest) s =
      .next (s.answered s (xferBytes x (p.id :: rest)) 0x02 .laneBusy []) := by
  subst hc
  have hu : u8 rest 0 = k := u8_index hindex (by have := Scope.size_le (paramScope p); omega)
  rw [exec_paramCommand]
  exact addressedCommand_refuses h (paramWrite_busy hlen (by rwa [hu]) (by rw [hu]; exact hq))

/-- Settles O23: what lane quiet says strip by strip; the payload check comes before the quiet check, and both before the
value. -/
theorem parameterChecksComeInOrder : Obligations.ParameterChecksComeInOrder := by
  refine ⟨fun s n => ?_, fun s x p rest h => ⟨fun hbad => ?_, fun n hlen hk hp hq => ?_, fun i hlen hk hp hq => ?_,
    fun b hlen hk hp hq => ?_⟩⟩
  · simp only [State.quiet_iff, State.stripBusy_false_iff]
  · rw [exec_paramCommand]
    exact addressedCommand_refuses h (paramWrite_badPayload hbad)
  · exact exec_paramCommand_busy h hlen hk hp n.isLt ((quietFor_lane s n).trans hq)
  · exact exec_paramCommand_busy h hlen hk hp i.isLt ((quietFor_strip s i).trans hq)
  · exact exec_paramCommand_busy h hlen hk hp b.isLt ((quietFor_boundary_eq s b).trans (Bool.and_eq_false_iff.2 hq))

end Sys2Proof.Machine

namespace Sys2Proof.Machine

/-! ### A test request by the place of its strip's entry (R47, R48) -/

section
variable {m : Mcs} {i : Strip} {o : Origin}

theorem Mcs.inFlight_self {f : Flight} (hf : m.flight = some f) (hi : f.entry.strip = i) : m.inFlight i = some f := by
  rw [Mcs.inFlight, hf, Option.filter_some, if_pos (decide_eq_true hi)]

theorem Mcs.inFlight_none (h : ∀ f, m.flight = some f → f.entry.strip ≠ i) : m.inFlight i = none :=
  Option.filter_eq_none_iff.2 fun f hf => by simpa using h f hf

/-- The only entry of a strip in the queue is the one found. -/
theorem Mcs.queued_only {e : TestEntry} (he : e ∈ m.queue) (hi : e.strip = i) (honly : ∀ q ∈ m.queue, q.strip = i → q = e) :
    m.queued i = some e := by
  cases hq : m.queued i with
  | none => exact absurd (decide_eq_true hi) (List.find?_eq_none.1 hq e he)
  | some d =>
    have hd : d.strip = i := by simpa using List.find?_some hq
    rw [honly d (List.mem_of_find?_eq_some hq) hd]

theorem Mcs.queued_none (h : ∀ e ∈ m.queue, e.strip ≠ i) : m.queued i = none :=
  List.find?_eq_none.2 fun e he => by simpa using h e he

/-- A request for the strip in flight raises the entry in flight, or is ignored. -/
theorem Mcs.request_flying {f : Flight} (hf : m.inFlight i = some f) : m.request i o =
    if o.rank < f.entry.origin.rank then
      { m with flight := some { f with entry := { f.entry with origin := o, stamp := m.stamps } }, stamps := m.stamps + 1 }
    else m := by
  simp only [Mcs.request, hf]

/-- A request for a queued strip raises its entry in the queue, or is ignored. -/
theorem Mcs.request_queued {e : TestEntry} (hf : m.inFlight i = none) (hq : m.queued i = some e) : m.request i o =
    if o.rank < e.origin.rank then
      { m with
        queue := insertTest { e with origin := o, stamp := m.stamps } (m.queue.filter fun q => q.strip ≠ i)
        stamps := m.stamps + 1 }
    else m := by
  simp only [Mcs.request, hf, hq]

/-- A request for any other strip enters the queue. -/
theorem Mcs.request_new (hf : m.inFlight i = none) (hq : m.queued i = none) : m.request i o =
    { m with
      queue := insertTest { strip := i, origin := o, aborts := 0, stamp := m.stamps } m.queue, stamps := m.stamps + 1 } := by
  simp only [Mcs.request, hf, hq]

/-- A request keeps the order of a queue whose stamps lie behind the next one. -/
theorem Mcs.request_ordered (hord : m.queue.Pairwise fun a b => a.before b = true) (hst : ∀ e ∈ m.queue, e.stamp < m.stamps) :
    (m.request i o).queue.Pairwise fun a b => a.before b = true := by
  cases hf : m.inFlight i with
  | some f =>
    rw [Mcs.request_flying hf]
    split
    · exact hord
    · exact hord
  | none =>
    cases hq : m.queued i with
    | some e =>
      rw [Mcs.request_queued hf hq]
      split
      · exact insertTest_pairwise (hord.filter _) fun x hx => (hst x (List.mem_filter.1 hx).1).ne
      · exact hord
    | none =>
      rw [Mcs.request_new hf hq]
      exact insertTest_pairwise hord fun x hx => (hst x hx).ne

end

theorem pairwise_before_iff (l : List TestEntry) : (l.Pairwise fun a b => a.before b = true) ↔
    l.Pairwise fun a b => a.origin.rank < b.origin.rank ∨ (a.origin.rank = b.origin.rank ∧ a.stamp < b.stamp) := by
  simp only [TestEntry.before_iff]

/-- Settles O33: by where the strip's entry is, in flight, in the queue or nowhere; every place in the queue is
`insertTest`'s. -/
theorem testRequestTakesItsPlace : Obligations.TestRequestTakesItsPlace := by
  intro m i o ordered
  refine ⟨fun f hf hi => ?_, fun hfly => ?_, fun hord hst => ?_, fun e => ⟨insertTest_perm e _, fun hord hst => ?_⟩⟩
  · rw [Mcs.request_flying (Mcs.inFlight_self hf hi)]
    exact ⟨fun hlt => if_pos hlt, fun hle => if_neg (not_lt.2 hle)⟩
  · have hf := Mcs.inFlight_none hfly
    refine ⟨fun e he hi honly => ?_, fun hnone => ?_⟩
    · rw [Mcs.request_queued hf (Mcs.queued_only he hi honly)]
      exact ⟨fun hle => if_neg (not_lt.2 hle), fun hlt => ⟨_, if_pos hlt, insertTest_perm _ _⟩⟩
    · exact ⟨_, Mcs.request_new hf (Mcs.queued_none hnone), insertTest_perm _ _⟩
  · exact (pairwise_before_iff _).1 (Mcs.request_ordered ((pairwise_before_iff _).2 hord) hst)
  · exact (pairwise_before_iff _).1 (insertTest_pairwise ((pairwise_before_iff _).2 hord) hst)

end Sys2Proof.Machine

namespace Sys2Proof.Machine

/-! ### The slot that follows (R42 to R44) -/

/-- What is found in an ascending list is the least element with the property. -/
theorem least_of_find? {n : Nat} {p : Fin n → Bool} {l : List (Fin n)} {k : Fin n} (hl : l.Pairwise (· < ·))
    (h : l.find? p = some k) : p k = true ∧ k ∈ l ∧ ∀ j ∈ l, j < k → p j = false := by
  refine ⟨List.find?_some h, List.mem_of_find?_eq_some h, fun j hj hjk => ?_⟩
  induction l with
  | nil => cases hj
  | cons a l ih =>
    obtain ⟨ha, hl⟩ := List.pairwise_cons.1 hl
    rw [List.find?_cons] at h
    split at h
    next =>
      obtain rfl := Option.some.inj h
      obtain rfl | hj := List.mem_cons.1 hj
      · exact absurd hjk (lt_irrefl _)
      · exact absurd (ha j hj) (lt_asymm hjk)
    next hpa =>
      obtain rfl | hj := List.mem_cons.1 hj
      · exact hpa
      · exact ih hl h hj

theorem firstSlot_spec {f : Vector Slot 4} {l : List (Fin 4)} {k : Fin 4} (hl : l.Pairwise (· < ·)) (h : firstSlot f l = some k) :
    f[k].len ≠ 0 ∧ k ∈ l ∧ ∀ j ∈ l, j < k → f[j].len = 0 := by
  obtain ⟨hk, hmem, hleast⟩ := least_of_find? hl h
  exact ⟨of_decide_eq_true hk, hmem, fun j hj hjk => not_not.1 (of_decide_eq_false (hleast j hj hjk))⟩

/-- While the pending frame holds some slot, the move to the next slot reaches a slot that begins. -/
theorem Mcs.begins_advance {m : Mcs} (h : ∃ j : Fin 4, m.pendingFrame[j].len ≠ 0) : m.begins m.advance.frame m.advance.pos := by
  obtain ⟨k, hk, e⟩ | ⟨hnone, e⟩ := m.advance_cases
  · obtain ⟨hlen, hmem, hleast⟩ := firstSlot_spec (positionsAfter_ascending _) hk
    rw [e]
    exact .inl ⟨⟨mem_positionsAfter.1 hmem, hlen, fun j hj => hleast j (mem_positionsAfter.2 hj)⟩, rfl⟩
  · obtain ⟨k, hk⟩ : ∃ k, firstSlot m.pendingFrame [0, 1, 2, 3] = some k := by
      obtain ⟨j, hj⟩ := h
      exact Option.isSome_iff_exists.1 (List.find?_isSome.2 ⟨j, mem_slots j, decide_eq_true hj⟩)
    obtain ⟨hlen, -, hleast⟩ := firstSlot_spec (by decide) hk
    have hfirst : m.firstPending = k := by rw [Mcs.firstPending, hk]; rfl
    rw [e, hfirst]
    refine .inr ⟨fun j hj => ?_, rfl, hlen, fun j => hleast j (mem_slots j)⟩
    simpa using List.find?_eq_none.1 hnone j (mem_positionsAfter.2 hj)

theorem Mcs.nextSlot_of_begins {m : Mcs} {f : Vector Slot 4} {j : Fin 4} (h : m.begins f j) : m.nextSlot = f[j] := by
  have hnext : m.nextSlot = m.advance.slot := by
    obtain ⟨k, hk, e⟩ | ⟨hnone, e⟩ := m.advance_cases
    · rw [e, Mcs.nextSlot, hk]; rfl
    · rw [e, Mcs.nextSlot, hnone]; rfl
  rw [hnext, Mcs.advance_of_begins h]
  rfl

/-- Which slot begins depends on the two frames and the slot position. -/
theorem Mcs.begins_congr {m n : Mcs} (hframe : m.frame = n.frame) (hpending : m.pendingFrame = n.pendingFrame)
    (hpos : m.pos = n.pos) : m.begins = n.begins := by
  funext f j
  simp only [Mcs.begins, Mcs.follows, hframe, hpending, hpos]

/-! ### A slot has begun and chooses its work (R44 to R46, R52, R53) -/

/-- Slot k of a frame has begun at a moment behind a slot with outcome o; its end is set, w stands as its work. -/
def State.begun (t : State) (now : Time) (o : SlotOutcome) (frame : Vector Slot 4) (k : Fin 4) (w : Work) : State :=
  { t with
    mcs := { t.mcs with
      prev := o, frame := frame, pos := k, slotDue := some (now + BitVec.ofNat 32 (frame[k].len * 16)), work := w } }

theorem State.eligible_iff (s : State) (e : TestEntry) : s.eligible e = true ↔
    (s.shu[e.strip].state = .inService ∨ s.shu[e.strip].state = .suspect ∨
        (e.origin = .recover ∧ s.shu[e.strip].state = .recovering)) ∧
      s.scu[e.strip].conn = .connected ∧ s.quiet (laneOf e.strip) = true := by
  simp [State.eligible, and_assoc, or_assoc]

section
variable {s : State}

theorem State.testToTake_first {a b : List TestEntry} {e : TestEntry} (hr : s.mcs.nextSlot.rule = .read)
    (hq : s.mcs.queue = a ++ e :: b) (ha : ∀ q ∈ a, ¬ s.eligible q = true) (he : s.eligible e = true) :
    s.testToTake = some e := by
  rw [State.testToTake, if_pos hr, hq, List.find?_append, List.find?_eq_none.2 ha, Option.none_or, List.find?_cons_of_pos he]

theorem State.testToTake_none (h : s.mcs.nextSlot.rule = .read → ∀ q ∈ s.mcs.queue, ¬ s.eligible q = true) :
    s.testToTake = none := by
  rw [State.testToTake]
  split
  next hr => exact List.find?_eq_none.2 (h hr)
  next => rfl

/-- The first probe from the pointer on that is not DISABLED is converted (R45). -/
theorem State.chooseProbe_turn {d : Fin 4} (hd : s.ptu.probe[s.mcs.pointer + d].state ≠ .disabled)
    (hbefore : ∀ e : Fin 4, e < d → s.ptu.probe[s.mcs.pointer + e].state = .disabled) :
    s.chooseProbe = .probe (s.mcs.pointer + d) := by
  have hfrom : probesFrom s.mcs.pointer = ([0, 1, 2, 3] : List (Fin 4)).map (s.mcs.pointer + ·) := by simp [probesFrom]
  have hleast : ([0, 1, 2, 3] : List (Fin 4)).find? ((fun p => decide (s.ptu.probe[p].state ≠ .disabled)) ∘
      (s.mcs.pointer + ·)) = some d :=
    find?_of_least (by decide) (mem_slots d) (decide_eq_true hd) fun e _ he => decide_eq_false (not_not.2 (hbefore e he))
  have hfind : s.probeToConvert = some (s.mcs.pointer + d) := by
    rw [State.probeToConvert, hfrom, List.find?_map, hleast]
    rfl
  rw [State.chooseProbe, hfind]

theorem State.chooseProbe_none (h : ∀ p : Probe, s.ptu.probe[p].state = .disabled) : s.chooseProbe = .none := by
  have hfind : s.probeToConvert = none := List.find?_eq_none.2 fun p _ => by simpa using h p
  rw [State.chooseProbe, hfind]

variable {r : SlotRule}

theorem State.choose_charge {e : TestEntry} (hr : r = .chargeElseProbe ∨ r = .chargeElseIdle) (ht : s.testToTake = some e) :
    s.choose r = .charge e := by
  obtain rfl | rfl := hr
  · simp only [State.choose, ht]
  · simp only [State.choose, ht]

theorem State.choose_conversion (h : r = .probe ∨ (r = .chargeElseProbe ∧ s.testToTake = none)) :
    s.choose r = s.chooseProbe := by
  obtain rfl | ⟨rfl, ht⟩ := h
  · exact s.choose_probe
  · simp only [State.choose, ht]

theorem State.choose_none (hprev : s.mcs.prev ≠ .charged)
    (h : (r = .chargeElseIdle ∧ s.testToTake = none) ∨ r = .read ∨ r = .idle) : s.choose r = .none := by
  obtain ⟨rfl, ht⟩ | rfl | rfl := h
  · simp only [State.choose, ht]
  · simp only [State.choose, if_neg hprev]
  · simp only [State.choose]

end

section
variable {t : State} {now : Time} {o : SlotOutcome} {frame : Vector Slot 4} {k : Fin 4} {w : Work}

/-- Chosen work that fits its slot begins. -/
theorem State.chooseWork_fits {c : Choice} (hc : (t.begun now o frame k w).choose frame[k].rule = c)
    (hfits : c.fits frame[k].len (t.begun now o frame k w).mcs.nextSlot.len = true) :
    (t.begun now o frame k w).chooseWork = (t.begun now o frame k w).beginWork c := by
  subst hc
  exact if_pos hfits

/-- Chosen work that does not fit its slot latches SCHEDULE_SHORT. -/
theorem State.chooseWork_short {c : Choice} (hc : (t.begun now o frame k w).choose frame[k].rule = c)
    (hfits : ¬ c.fits frame[k].len (t.begun now o frame k w).mcs.nextSlot.len = true) :
    (t.begun now o frame k w).chooseWork = (t.begun now o frame k .none).latchShort := by
  subst hc
  exact if_neg hfits

/-! ### A sequence behind a charge (R46, R55) -/

/-- Only a slot behind a charge can break a sequence. -/
theorem State.breakSequence_uncharged (h : o ≠ .charged) :
    (t.begun now o frame k w).breakSequence = t.begun now o frame k w := by
  rw [State.breakSequence]
  split
  next => exact if_neg fun hbreak => h hbreak.1
  next => rfl

variable {f : Flight} (hf : t.mcs.flight = some f)
include hf

theorem State.breakSequence_reads (hr : frame[k].rule = .read) (hl : 10 ≤ frame[k].len) :
    (t.begun now .charged frame k w).breakSequence = t.begun now .charged frame k w := by
  simp only [State.breakSequence, show (t.begun now .charged frame k w).mcs.flight = some f from hf]
  exact if_neg fun hbreak => hbreak.2 ⟨hr, hl⟩

theorem State.breakSequence_abandons (hr : frame[k].rule ≠ .read) :
    (t.begun now .charged frame k w).breakSequence = (t.abortTest f).begun now .aborted frame k w := by
  simp only [State.breakSequence, show (t.begun now .charged frame k w).mcs.flight = some f from hf]
  exact (if_pos ⟨rfl, fun hreads => hr hreads.1⟩).trans (if_neg hr)

theorem State.breakSequence_short (hr : frame[k].rule = .read) (hl : frame[k].len < 10) :
    (t.begun now .charged frame k w).breakSequence = (t.abortTest f).latchShort.begun now .aborted frame k w := by
  simp only [State.breakSequence, show (t.begun now .charged frame k w).mcs.flight = some f from hf]
  exact (if_pos ⟨rfl, fun hreads => absurd hreads.2 (not_le.2 hl)⟩).trans (if_pos hr)

end

/-! ### The ended slot leaves its outcome (R43, R54) -/

section
variable {s t : State} {o : SlotOutcome} {frame : Vector Slot 4} {k : Fin 4} {code : BitVec 16}

/-- The running slot's work leaves the state u with outcome o; the next slot begins there and may break a sequence. -/
theorem execSlotBoundary_begun {u : State} (hdue : due s.mcs.slotDue s.siteTime) (hb : s.mcs.begins frame k)
    (hend : s.endWork code = u.setPrev o) (hu : SameSettings s u) (htime : u.siteTime = s.siteTime) :
    exec (.slotBoundary code) s = .next (u.begun s.siteTime o frame k u.mcs.work).breakSequence.chooseWork := by
  have hadv : (u.setPrev o).mcs.advance = { u.mcs with prev := o, frame := frame, pos := k } := by
    refine Mcs.advance_of_begins (m := (u.setPrev o).mcs) ?_
    rwa [Mcs.begins_congr (m := (u.setPrev o).mcs) (n := s.mcs) hu.frame hu.pending hu.pos]
  rw [execSlotBoundary_due hdue, hend, hadv, ← htime]
  rfl

/-- The running slot has ended in state t with outcome o, and slot k of a frame chooses its work there. -/
structure SlotEnded (s t : State) (o : SlotOutcome) (frame : Vector Slot 4) (k : Fin 4) (code : BitVec 16) : Prop where
  time : t.siteTime = s.siteTime
  pending : t.mcs.pendingFrame = s.mcs.pendingFrame
  outcome : o ≠ .charged
  chooses : ∃ w, exec (.slotBoundary code) s = .next (t.begun s.siteTime o frame k w).chooseWork

section
variable (hdue : due s.mcs.slotDue s.siteTime) (hb : s.mcs.begins frame k)
include hdue hb

/-- A slot other than a charge leaves its outcome. -/
theorem SlotEnded.of_endWork (hend : s.endWork code = t.setPrev o) (hset : SameSettings s t) (htime : t.siteTime = s.siteTime)
    (ho : o ≠ .charged) : SlotEnded s t o frame k code :=
  ⟨htime, hset.pending, ho, t.mcs.work, by
    rw [execSlotBoundary_begun hdue hb hend hset htime, State.breakSequence_uncharged ho]⟩

/-- A charge ends and the slot behind it decides about the test. -/
theorem execSlotBoundary_charged (hw : s.mcs.work = .charge) : exec (.slotBoundary code) s =
    .next (s.begun s.siteTime .charged frame k s.mcs.work).breakSequence.chooseWork :=
  execSlotBoundary_begun hdue hb (by simp only [State.endWork, hw]) (.refl s) rfl

theorem SlotEnded.of_abandon {f : Flight} (hw : s.mcs.work = .charge) (hf : s.mcs.flight = some f)
    (hr : frame[k].rule ≠ .read) : SlotEnded s (s.abortTest f) .aborted frame k code :=
  ⟨(s.abortTest_frame f).1, (s.abortTest_steady f).pending, nofun, s.mcs.work, by
    rw [execSlotBoundary_charged hdue hb hw, State.breakSequence_abandons hf hr]⟩

theorem SlotEnded.of_shortRead {f : Flight} (hw : s.mcs.work = .charge) (hf : s.mcs.flight = some f)
    (hr : frame[k].rule = .read) (hl : frame[k].len < 10) : SlotEnded s (s.abortTest f).latchShort .aborted frame k code :=
  ⟨(s.abortTest_frame f).1, (s.abortTest_steady f).pending, nofun, s.mcs.work, by
    rw [execSlotBoundary_charged hdue hb hw, State.breakSequence_short hf hr hl]⟩

/-- A READ slot of sufficient length behind a charge begins the read phase (R46, R53). -/
theorem execSlotBoundary_reads {f : Flight} (hw : s.mcs.work = .charge) (hf : s.mcs.flight = some f)
    (hr : frame[k].rule = .read) (hl : 10 ≤ frame[k].len) : exec (.slotBoundary code) s =
      .next (({ s with mcs := { s.mcs with flight := some { f with phase := .read } } } : State).begun s.siteTime .charged
        frame k .read) := by
  have hchoice : (s.begun s.siteTime .charged frame k s.mcs.work).choose frame[k].rule = .read := by
    rw [hr]
    simp only [State.choose]
    exact if_pos rfl
  rw [execSlotBoundary_charged hdue hb hw, State.breakSequence_reads hf hr hl,
    State.chooseWork_fits hchoice (decide_eq_true hl)]
  simp only [State.beginWork, State.begun, hf, Option.map_some]

end

/-! ### The next slot chooses (R44 to R46) -/

variable (h : SlotEnded s t o frame k code)
include h

/-- Which slot follows the one that has begun. -/
theorem SlotEnded.begins_eq (w : Work) : (t.begun s.siteTime o frame k w).mcs.begins =
    ({ s.mcs with frame := frame, pos := k } : Mcs).begins :=
  Mcs.begins_congr rfl h.pending rfl

/-- No test is taken when no entry is eligible, or when no READ slot follows. -/
theorem SlotEnded.takesNone (hsome : ∃ j : Fin 4, s.mcs.pendingFrame[j].len ≠ 0)
    (hno : ∀ f j, ({ s.mcs with frame := frame, pos := k } : Mcs).begins f j → f[j].rule = .read →
      ∀ q ∈ t.mcs.queue, ¬ t.eligible q = true) (w : Work) : (t.begun s.siteTime o frame k w).testToTake = none := by
  have hb : (t.begun s.siteTime o frame k w).mcs.begins _ _ := Mcs.begins_advance (by rwa [← h.pending] at hsome)
  refine State.testToTake_none fun hr => ?_
  rw [Mcs.nextSlot_of_begins hb] at hr
  exact hno _ _ (by rwa [← h.begins_eq w]) hr

theorem SlotEnded.idles (hc : ∀ w, (t.begun s.siteTime o frame k w).choose frame[k].rule = .none) :
    exec (.slotBoundary code) s = .next (t.begun s.siteTime o frame k .none) := by
  obtain ⟨w, hw⟩ := h.chooses
  rw [hw, State.chooseWork_fits (hc w) rfl]
  rfl

/-- Work that does not fit gives way to none (R44). -/
theorem SlotEnded.short {c : Choice} (hc : ∀ w, (t.begun s.siteTime o frame k w).choose frame[k].rule = c)
    (hfits : ∀ w, ¬ c.fits frame[k].len (t.begun s.siteTime o frame k w).mcs.nextSlot.len = true) :
    exec (.slotBoundary code) s = .next (t.begun s.siteTime o frame k .none).latchShort := by
  obtain ⟨w, hw⟩ := h.chooses
  rw [hw, State.chooseWork_short (hc w) (hfits w)]

theorem SlotEnded.converts {p : Probe} (hc : ∀ w, (t.begun s.siteTime o frame k w).choose frame[k].rule = .probe p)
    (hl : 20 ≤ frame[k].len) : exec (.slotBoundary code) s =
      .next (({ t with mcs := { t.mcs with pointer := p + 1 } } : State).begun s.siteTime o frame k (.probe p)) := by
  obtain ⟨w, hw⟩ := h.chooses
  rw [hw, State.chooseWork_fits (hc w) (decide_eq_true hl)]
  rfl

theorem SlotEnded.charges {e : TestEntry} (hc : ∀ w, (t.begun s.siteTime o frame k w).choose frame[k].rule = .charge e)
    (hfits : ∀ w, Choice.fits (.charge e) frame[k].len (t.begun s.siteTime o frame k w).mcs.nextSlot.len = true) :
    exec (.slotBoundary code) s = .next (({ t with
      scu := upd t.scu e.strip fun u => { u with conn := .underTest, disturb := some { start := s.siteTime, stop := none } }
      mcs := { t.mcs with
        queue := t.mcs.queue.filter fun q => q.strip ≠ e.strip
        flight := some { entry := e, phase := .charge } } } : State).begun s.siteTime o frame k .charge) := by
  obtain ⟨w, hw⟩ := h.chooses
  rw [hw, State.chooseWork_fits (hc w) (hfits w), ← h.time]
  rfl

end

/-- Settles O32: the running slot ends in one of six ways, and in each the next slot's rule chooses in the state that is
left. -/
theorem slotsRunATest : Obligations.SlotsRunATest := by
  intro s frame k code hdue hb hsome slot moved settled short dropped pass judged ended
  refine ⟨fun f hf hw hr hl => execSlotBoundary_reads hdue hb hw hf hr hl, fun t o hend => ?_⟩
  have h : SlotEnded s t o frame k code := by
    obtain ⟨-, hw, rfl, rfl⟩ | ⟨-, hw, rfl, rfl⟩ | ⟨p, -, hw, rfl, rfl⟩ | ⟨f, hf, hw, rfl, rfl⟩ |
      ⟨f, hf, hw, hr, rfl, rfl⟩ | ⟨f, hf, hw, hr, hl, rfl, rfl⟩ := hend
    · exact .of_endWork hdue hb (by simp only [State.endWork, hw]) (.refl _) rfl nofun
    · exact .of_endWork hdue hb (by simp only [State.endWork, hw]) (.refl _) rfl nofun
    · exact .of_endWork hdue hb (State.endWork_probe hw code) (s.reading_steady p _).settings (s.reading_frame p _).1 nofun
    · exact .of_endWork hdue hb (t := s.readCompletion f code.toNat) (by simp only [State.endWork, hw, hf])
        (s.readCompletion_steady f _).settings (s.readCompletion_frame f _).1 nofun
    · exact .of_abandon hdue hb hw hf hr
    · exact .of_shortRead hdue hb hw hf hr hl
  intro ready turn then_ noTest converts idles
  have hready (e : TestEntry) : t.eligible e = true ↔ ready e := t.eligible_iff e
  have hnone (hno : noTest) := h.takesNone hsome fun f j hj hr q hq => mt (hready q).1 (hno f j hj hr q hq)
  have hprobe (hc : converts) (w : Work) : (t.begun s.siteTime o frame k w).choose slot.rule =
      (t.begun s.siteTime o frame k w).chooseProbe :=
    State.choose_conversion (hc.imp_right fun ⟨hr, hno⟩ => ⟨hr, hnone hno w⟩)
  refine ⟨fun f j a b e hr hj hread hq ha he => ?_, fun d hc ⟨hd, hbefore⟩ => ?_, fun hc hoff => ?_, fun hc => ?_⟩
  · have hb' (w : Work) : (t.begun s.siteTime o frame k w).mcs.begins f j := by rwa [h.begins_eq w]
    have htest (w : Work) : (t.begun s.siteTime o frame k w).choose slot.rule = .charge e :=
      State.choose_charge hr (State.testToTake_first (by rwa [Mcs.nextSlot_of_begins (hb' w)]) hq
        (fun q hq => mt (hready q).1 (ha q hq)) ((hready e).2 he))
    have hfits (w : Work) : Choice.fits (.charge e) slot.len (t.begun s.siteTime o frame k w).mcs.nextSlot.len = true ↔
        50 ≤ slot.len ∧ 10 ≤ f[j].len := by
      rw [Mcs.nextSlot_of_begins (hb' w), Choice.fits, Bool.and_eq_true, decide_eq_true_iff, decide_eq_true_iff]
    exact ⟨fun hl hn => h.charges htest fun w => (hfits w).2 ⟨hl, hn⟩,
      fun hl => h.short htest fun w hfit => by have := (hfits w).1 hfit; omega⟩
  · have hturn (w : Work) : (t.begun s.siteTime o frame k w).choose slot.rule = .probe (t.mcs.pointer + d) :=
      (hprobe hc w).trans (State.chooseProbe_turn (s := t.begun s.siteTime o frame k w) hd hbefore)
    exact ⟨fun hl => h.converts hturn hl, fun hl => h.short hturn fun w hfit => absurd (of_decide_eq_true hfit) (not_le.2 hl)⟩
  · exact h.idles fun w => (hprobe hc w).trans (State.chooseProbe_none (s := t.begun s.siteTime o frame k w) hoff)
  · exact h.idles fun w => State.choose_none h.outcome (hc.imp_left fun ⟨hr, hno⟩ => ⟨hr, hnone hno w⟩)

end Sys2Proof.Machine

namespace Sys2Proof.Machine

/-! ### A row hit that resolves without the other row (R76 to R78, R81) -/

theorem straddleOf_one (n : Lane) (h : RowHit) :
    straddleOf n [h] = if h.kind = .straddle then some n.val else none := by
  simp only [straddleOf, List.any_cons, List.any_nil, Bool.or_false, decide_eq_true_eq]

theorem straddleOf_two (n : Lane) (u d : RowHit) :
    straddleOf n [u, d] = if u.kind = .straddle ∨ d.kind = .straddle then some n.val else none := by
  simp only [straddleOf, List.any_cons, List.any_nil, Bool.or_false, Bool.or_eq_true, decide_eq_true_eq]

theorem Context.vLast?_empty {x : Context} (h : x = .empty) : x.vLast? = none := by
  rw [h]
  rfl

section
variable {s : State} {n : Lane} {e : QueueEntry} {d : RowHit}

/-- An upstream entry resolves with the misses of the downstream row, which leave the contexts of the lanes. -/
theorem State.upstreamOnly_eq (s : State) (n : Lane) (e : QueueEntry) : s.upstreamOnly n e = upstreamResolved s n e := by
  have hvau : (s.rowMisses n .down e.hit e.hit.time).vau = s.vau := by simp
  simp only [State.upstreamOnly, upstreamResolved, hvau]
  cases s.vau.lane[n].ctx.vLast? with
  | none => rfl
  | some v =>
    simp only [Candidate.ofUpstream, straddleOf_one]
    rfl

theorem upstreamResolved_orphan (h : s.vau.lane[n].ctx = .empty) :
    upstreamResolved s n e = (s.rowMisses n .down e.hit e.hit.time).orphan n := by
  simp only [← State.upstreamOnly_eq, State.upstreamOnly, State.rowMisses_frame, Context.vLast?_empty h]

theorem upstreamResolved_axle {v : Nat} (h : s.vau.lane[n].ctx.vLast? = some v) : upstreamResolved s n e =
    (s.rowMisses n .down e.hit e.hit.time).handOver (Candidate.ofUpstream e.hit v) := by
  simp only [← State.upstreamOnly_eq, State.upstreamOnly, State.rowMisses_frame, h]

theorem State.downstreamOnly_orphan (h : s.vau.lane[n].ctx = .empty) :
    s.downstreamOnly n d = (s.rowMisses n .up d d.time).orphan n := by
  simp only [State.downstreamOnly, State.rowMisses_frame, Context.vLast?_empty h]

theorem State.downstreamOnly_axle {v : Nat} (h : s.vau.lane[n].ctx.vLast? = some v) : s.downstreamOnly n d =
    (s.rowMisses n .up d d.time).handOver (Candidate.ofDownstream d v s.cst.working.lane[n].spacing) := by
  simp only [State.downstreamOnly, State.rowMisses_frame, h]

theorem QueueEntry.expiredAt_iff {now : Time} : e.expiredAt now = true ↔
    0 < (now - (e.hit.time + BitVec.ofNat 32 e.upper)).toNat ∧
      (now - (e.hit.time + BitVec.ofNat 32 e.upper)).toNat < 2147483648 := passed_iff

theorem execEntryExpiry_expired {k : Fin 4} (he : s.apu.queue[n][k.val]? = some e) (hexp : e.expiredAt s.siteTime = true) :
    exec (.entryExpiry n k) s = .next (upstreamResolved (s.setQueue n (s.apu.queue[n].eraseIdx k.val)) n e) := by
  rw [← State.upstreamOnly_eq]
  refine congrArg Host.Outcome.next ?_
  simp only [he, hexp, if_true]

end

/-- Settles O38: the expired entry leaves its queue and resolves by whether a vehicle is in progress. -/
theorem entryExpiryResolvesUpstreamOnly : Obligations.EntryExpiryResolvesUpstreamOnly := by
  intro s n k e he hlane late hpos hreach t first m
  have hqueue : upd s.apu.queue n (fun _ => s.apu.queue[n].eraseIdx k.val) = upd s.apu.queue n fun q => q.eraseIdx k.val :=
    upd_congr s.apu.queue n rfl
  have hexec : exec (.entryExpiry n k) s = .next (upstreamResolved t n e) := by
    rw [execEntryExpiry_expired he (QueueEntry.expiredAt_iff.2 ⟨hpos, hreach⟩)]
    simp only [State.setQueue, hqueue]
    rfl
  refine ⟨hexec, fun hempty => ?_, fun v hv => ?_⟩
  · have hres := upstreamResolved_orphan (s := t) (e := e) hempty
    rw [hexec, hres]
    rfl
  · have hres := upstreamResolved_axle (s := t) (e := e) hv
    rw [hexec, hres, Candidate.ofUpstream, straddleOf_one, hlane]
    rfl

/-! ### Windows, places in the queue and matches (R71, R72, R74, R75) -/

section
variable {s : State} {n : Lane}

theorem State.window_full (h : s.vau.lane[n].ctx = .empty) :
    s.window n = (fullLower s.cst.working.lane[n].spacing, fullUpper s.cst.working.lane[n].spacing) := by
  simp only [State.window, Context.vLast?_empty h]

theorem State.window_expected {v : Nat} (h : s.vau.lane[n].ctx.vLast? = some v) : s.window n =
    (max (fullLower s.cst.working.lane[n].spacing)
        (expectedInterval s.cst.working.lane[n].spacing v * (100 - s.par.lane[n].spdTol) / 100),
      min (fullUpper s.cst.working.lane[n].spacing)
        (expectedInterval s.cst.working.lane[n].spacing v * (100 + s.par.lane[n].spdTol) / 100)) := by
  simp only [State.window, h]

end

/-- An entry stands behind the entries that are no younger and ahead of the first that is (R72). -/
theorem insertEntry_place {now : Time} {e : QueueEntry} {a b : List QueueEntry}
    (ha : ∀ q ∈ a, elapsed e.hit.time now ≤ elapsed q.hit.time now)
    (hb : ∀ q ∈ b.head?, elapsed q.hit.time now < elapsed e.hit.time now) : insertEntry now e (a ++ b) = a ++ e :: b := by
  induction a with
  | nil =>
    cases b with
    | nil => rfl
    | cons q qs => exact if_pos (hb q rfl)
  | cons q qs ih =>
    obtain ⟨hq, hqs⟩ := List.forall_mem_cons.1 ha
    rw [List.cons_append, insertEntry, if_neg (Nat.not_lt.2 hq), ih hqs]
    rfl

/-- The pairs of patterns that R74's table admits, upstream first. -/
def admittedPatterns : List (SidePattern × SidePattern) :=
  [(.full, .full), (.full, .leftHalf), (.full, .rightHalf), (.leftHalf, .full), (.leftHalf, .leftHalf), (.leftHalf, .straddle),
    (.rightHalf, .full), (.rightHalf, .rightHalf), (.straddle, .full), (.straddle, .leftHalf), (.straddle, .straddle)]

theorem compatible_iff (u d : SidePattern) : compatible u d = true ↔ (u, d) ∈ admittedPatterns := by
  cases u <;> cases d <;> decide

theorem QueueEntry.accepts_iff {e : QueueEntry} {d : RowHit} : e.accepts d = true ↔
    (d.time - e.hit.time).toNat < 2147483648 ∧ e.lower ≤ (d.time - e.hit.time).toNat ∧
      (d.time - e.hit.time).toNat ≤ e.upper ∧ (e.hit.pattern, d.pattern) ∈ admittedPatterns := by
  simp only [QueueEntry.accepts, Bool.and_eq_true, decide_eq_true_eq, inReach_iff, compatible_iff, and_assoc]
  rfl

theorem splitAtMatch_none {d : RowHit} {l : List QueueEntry} (h : ∀ x ∈ l, ¬ x.accepts d = true) :
    splitAtMatch d l = none := by
  induction l with
  | nil => rfl
  | cons x xs ih =>
    obtain ⟨hx, hxs⟩ := List.forall_mem_cons.1 h
    rw [splitAtMatch, if_neg hx, ih hxs]
    rfl

/-- The first entry that accepts a row hit is its match. -/
theorem splitAtMatch_first {d : RowHit} {a b : List QueueEntry} {e : QueueEntry} (ha : ∀ x ∈ a, ¬ x.accepts d = true)
    (he : e.accepts d = true) : splitAtMatch d (a ++ e :: b) = some (a, e, b) := by
  induction a with
  | nil => exact if_pos he
  | cons x xs ih =>
    obtain ⟨hx, hxs⟩ := List.forall_mem_cons.1 ha
    rw [List.cons_append, splitAtMatch, if_neg hx, ih hxs]
    rfl

/-! ### A row hit goes to its queue or is matched (R72, R75, R76) -/

section
variable {s : State} {h d : RowHit} {lo hi : Nat}

theorem State.enterQueue_expired (hw : s.window h.lane = (lo, hi))
    (he : QueueEntry.expiredAt ⟨h, lo, hi⟩ s.siteTime = true) :
    s.enterQueue h = upstreamResolved s h.lane ⟨h, lo, hi⟩ := by
  simp only [State.enterQueue, hw, he, if_true, State.upstreamOnly_eq]

section
variable (hw : s.window h.lane = (lo, hi)) (he : QueueEntry.expiredAt ⟨h, lo, hi⟩ s.siteTime = false) {oldest : QueueEntry}
  {rest : List QueueEntry} (hq : insertEntry s.siteTime ⟨h, lo, hi⟩ s.apu.queue[h.lane] = oldest :: rest)
include hw he hq

theorem State.enterQueue_waits (hlen : rest.length < 4) : s.enterQueue h = s.setQueue h.lane (oldest :: rest) := by
  have hfits : ¬ Config.bufferSize < rest.length + 1 := Nat.not_lt.2 hlen
  simp only [State.enterQueue, hw, he, hq, if_neg hfits, Bool.false_eq_true, if_false]

theorem State.enterQueue_overflows (hlen : rest.length = 4) :
    s.enterQueue h = upstreamResolved (s.setQueue h.lane rest) h.lane oldest := by
  have hover : Config.bufferSize < rest.length + 1 := by rw [hlen]; decide
  simp only [State.enterQueue, hw, he, hq, if_pos hover, Bool.false_eq_true, if_false, State.upstreamOnly_eq]

end

theorem State.routeHit_up (hrow : h.row = .up) : s.routeHit h = s.enterQueue h := by
  simp only [State.routeHit, hrow]

theorem State.routeHit_matched {a b : List QueueEntry} {e : QueueEntry} (hrow : d.row = .down)
    (hsplit : splitAtMatch d s.apu.queue[d.lane] = some (a, e, b)) : s.routeHit d =
      (a.foldl (fun t x => upstreamResolved t d.lane x) (s.setQueue d.lane b)).handOver (Candidate.ofMatch e.hit d) := by
  simp only [State.routeHit, hrow, State.matchDownstream, hsplit, State.upstreamOnly_eq]

theorem State.routeHit_unmatched (hrow : d.row = .down) (hsplit : splitAtMatch d s.apu.queue[d.lane] = none) :
    s.routeHit d = s.downstreamOnly d.lane d := by
  simp only [State.routeHit, hrow, State.matchDownstream, hsplit]

end

/-- Settles O39: the upstream hit by its window, its expiry and its place; the downstream hit by the first entry that accepts
it. -/
theorem upstreamHitsWaitDownstreamHitsMatch : Obligations.UpstreamHitsWaitDownstreamHitsMatch := by
  refine ⟨?_, ?_⟩
  · intro s h a b hrow hqueue hsize age ha hb spacing low high tol queued enters
    have henters (lo hi : Nat) (hw : s.window h.lane = (lo, hi)) : enters lo hi := by
      have hexp : QueueEntry.expiredAt ⟨h, lo, hi⟩ s.siteTime = true ↔
          0 < age (h.time + BitVec.ofNat 32 hi) ∧ age (h.time + BitVec.ofNat 32 hi) < 2147483648 := QueueEntry.expiredAt_iff
      have hplace : insertEntry s.siteTime ⟨h, lo, hi⟩ s.apu.queue[h.lane] = a ++ ⟨h, lo, hi⟩ :: b := by
        rw [hqueue]
        exact insertEntry_place ha hb
      simp only [enters, State.routeHit_up hrow]
      refine ⟨fun hpos hlate => State.enterQueue_expired hw (hexp.2 ⟨hpos, hlate⟩), fun hlate => ?_⟩
      have hno : QueueEntry.expiredAt ⟨h, lo, hi⟩ s.siteTime = false := by
        rw [Bool.eq_false_iff, ne_eq, hexp]
        omega
      refine ⟨fun hlen => ?_, fun oldest rest hq hlen => State.enterQueue_overflows hw hno (hplace.trans hq) hlen⟩
      obtain ⟨oldest, rest, hq⟩ := List.exists_cons_of_ne_nil (l := a ++ ⟨h, lo, hi⟩ :: b) (by simp)
      have hrest : rest.length < 4 := by
        have := congrArg List.length hq
        simp only [List.length_append, List.length_cons] at this
        omega
      rw [State.enterQueue_waits hw hno (hplace.trans hq) hrest, hq]
      rfl
    exact ⟨fun hempty => henters low high (State.window_full hempty),
      fun v hv => henters _ _ (State.window_expected hv)⟩
  · intro s d hrow n delta pattern fits takes
    have htakes (x : QueueEntry) : x.accepts d = true ↔ takes x := QueueEntry.accepts_iff
    refine ⟨fun a b e hqueue hlane ha he => ?_, fun hno => ?_⟩
    · have hsplit : splitAtMatch d s.apu.queue[d.lane] = some (a, e, b) := by
        rw [hqueue]
        exact splitAtMatch_first (fun x hx => mt (htakes x).1 (ha x hx)) ((htakes e).2 he)
      rw [State.routeHit_matched hrow hsplit, Candidate.ofMatch, straddleOf_two, hlane]
      rfl
    · have hsplit : splitAtMatch d s.apu.queue[d.lane] = none := splitAtMatch_none fun x hx => mt (htakes x).1 (hno x hx)
      rw [State.routeHit_unmatched hrow hsplit]
      refine ⟨State.downstreamOnly_orphan, fun v hv => ?_⟩
      rw [State.downstreamOnly_axle hv, Candidate.ofDownstream, straddleOf_one]
      rfl

end Sys2Proof.Machine

namespace Sys2Proof.Machine

/-! ### A pulse arrives at its side buffer (R60 to R62, R66) -/

/-- The first record of a strip in transit is its oldest. -/
theorem takeTransit_first {i : Strip} {a b : List PulseRecord} {r : PulseRecord} (ha : ∀ q ∈ a, q.strip ≠ i)
    (hr : r.strip = i) : takeTransit i (a ++ r :: b) = some (r, a ++ b) := by
  induction a with
  | nil => exact if_pos hr
  | cons q qs ih =>
    obtain ⟨hq, hqs⟩ := List.forall_mem_cons.1 ha
    rw [List.cons_append, takeTransit, if_neg hq, ih hqs]
    rfl

/-- The state with the records in transit replaced. -/
def State.setTransit (s : State) (l : List PulseRecord) : State := { s with apu := { s.apu with transit := l } }

theorem execPulseArrival_first {s : State} {i : Strip} {r : PulseRecord} {l : List PulseRecord}
    (h : takeTransit i s.apu.transit = some (r, l)) :
    exec (.pulseArrival i) s = .next ((s.setTransit l).pulseArrives r) := by
  refine congrArg Host.Outcome.next ?_
  simp only [h]
  rfl

section
variable {s : State} {r : PulseRecord}

theorem State.pulseArrives_alone
    (h : takeWithin r.mid s.par.lane[laneOf r.strip].wLr s.apu.side[partnerOf r.strip] = none) :
    s.pulseArrives r = s.waitSide r := by
  simp only [State.pulseArrives, h]

theorem State.pulseArrives_pairs {q : PulseRecord} {rest : List Waiting}
    (h : takeWithin r.mid s.par.lane[laneOf r.strip].wLr s.apu.side[partnerOf r.strip] = some (q, rest)) :
    s.pulseArrives r = (s.setSide (partnerOf r.strip) rest).pairHit r q
      (if isLeft r.strip then RowHit.ofPair r q else RowHit.ofPair q r) := by
  simp only [State.pulseArrives, h]

theorem State.waitSide_joins (h : s.apu.side[r.strip].length < 4) : s.waitSide r = s.setSide r.strip
    (s.apu.side[r.strip] ++ [{ pulse := r, expiry := loneExpiry r s.par.lane[laneOf r.strip].wLr }]) := by
  cases hside : s.apu.side[r.strip] with
  | nil => simp only [State.waitSide, hside]; rfl
  | cons head rest =>
    have hfits : ¬ Config.bufferSize <
        (rest ++ [(⟨r, loneExpiry r s.par.lane[laneOf r.strip].wLr⟩ : Waiting)]).length + 1 := by
      rw [hside, List.length_cons] at h
      rw [List.length_append, List.length_singleton]
      exact Nat.not_lt.2 h
    simp only [State.waitSide, hside, List.cons_append, if_neg hfits]

/-- A fifth waiting pulse forces the head of its buffer out (R66). -/
theorem State.waitSide_overflows {head : Waiting} {rest : List Waiting} (hside : s.apu.side[r.strip] = head :: rest)
    (h : rest.length = 3) : s.waitSide r = (s.setSide r.strip
      (rest ++ [{ pulse := r, expiry := loneExpiry r s.par.lane[laneOf r.strip].wLr }])).resolveLone head.pulse := by
  have hover : Config.bufferSize < (rest ++ [(⟨r, loneExpiry r s.par.lane[laneOf r.strip].wLr⟩ : Waiting)]).length + 1 := by
    rw [List.length_append, List.length_singleton, h]
    decide
  simp only [State.waitSide, hside, List.cons_append, if_pos hover]

end

/-! ### Full row hits (R62) -/

theorem laneOf_partnerOf (i : Strip) : laneOf (partnerOf i) = laneOf i := by
  unfold laneOf partnerOf
  split <;> exact Fin.ext (by simp only []; omega)

theorem rowOf_partnerOf (i : Strip) : rowOf (partnerOf i) = rowOf i := by
  have hpos : (partnerOf i).val % 4 < 2 ↔ i.val % 4 < 2 := by
    unfold partnerOf
    split <;> (simp only []; omega)
  simp only [rowOf, hpos]

/-- The interval between two times that lie close together in either direction decides which of them is the earlier one. -/
theorem meanTime_near {a b : Time} {w : Nat} (hw : w ≤ 400) (h : (b - a).toNat ≤ w ∨ (a - b).toNat ≤ w) : meanTime a b =
    if (b - a).toNat ≤ w then a + BitVec.ofNat 32 ((b - a).toNat / 2) else b + BitVec.ofNat 32 ((a - b).toNat / 2) := by
  have hreach : (b - a).toNat < 2147483648 ↔ (b - a).toNat ≤ w := by bv_omega
  simp only [meanTime_eq, hreach]

/-- The hit time of two pulses that lie close together does not depend on which of them is the left one. -/
theorem meanTime_near_comm {a b : Time} {w : Nat} (hw : w ≤ 400) (h : (b - a).toNat ≤ w ∨ (a - b).toNat ≤ w) :
    meanTime b a = meanTime a b := by
  rw [meanTime_eq, meanTime_eq]
  split_ifs with hb ha
  · have hab : a = b := by bv_omega
    rw [hab]
  · rfl
  · rfl
  · bv_omega

/-- The flags of two pulses, each named once. -/
theorem PulseRecord.flags_or (l r : PulseRecord) :
    l.flags ||| r.flags = codeIf (l.clipped || r.clipped) flagClipped ||| codeIf (l.long || r.long) flagLong := by
  rw [codeIf_or, codeIf_or, PulseRecord.flags, PulseRecord.flags]
  ac_rfl

/-- The full row hit that a pulse r of strip i forms with a pulse q of the partner strip. -/
def RowHit.full (w : Nat) (i : Strip) (r q : PulseRecord) : RowHit :=
  { lane := laneOf i
    row := rowOf i
    kind := .full
    time :=
      if (q.mid - r.mid).toNat ≤ w then r.mid + BitVec.ofNat 32 ((q.mid - r.mid).toNat / 2)
      else q.mid + BitVec.ofNat 32 ((r.mid - q.mid).toNat / 2)
    left := some (if isLeft i then r else q)
    right := some (if isLeft i then q else r)
    flags := codeIf (r.clipped || q.clipped) flagClipped ||| codeIf (r.long || q.long) flagLong }

theorem RowHit.ofPair_full {w : Nat} {i : Strip} {r q : PulseRecord} (hr : r.strip = i) (hq : q.strip = partnerOf i)
    (hw : w ≤ 400) (hnear : (q.mid - r.mid).toNat ≤ w ∨ (r.mid - q.mid).toNat ≤ w) :
    (if isLeft r.strip then RowHit.ofPair r q else RowHit.ofPair q r) = RowHit.full w i r q := by
  cases hl : isLeft i with
  | true =>
    simp only [RowHit.full, RowHit.ofPair, hr, hl, if_true, meanTime_near hw hnear, PulseRecord.flags_or]
  | false =>
    simp only [RowHit.full, RowHit.ofPair, hr, hq, hl, Bool.false_eq_true, if_false, laneOf_partnerOf, rowOf_partnerOf,
      meanTime_near_comm hw hnear, meanTime_near hw hnear, PulseRecord.flags_or, Bool.or_comm q.clipped, Bool.or_comm q.long]

/-- Settles O36: the first record of the strip leaves the transit; the first opposite pulse in reach pairs with it, and without
one it joins its buffer, whose head a fifth pulse forces out. -/
theorem pulseArrivalPairsOrWaits : Obligations.PulseArrivalPairsOrWaits := by
  intro s i a b r htransit ha hr hw w near other waiting now
  have hnear (x : Waiting) : within x.pulse.mid r.mid w = true ↔ near x := within_iff
  have hexec : exec (.pulseArrival i) s = .next ((s.setTransit (a ++ b)).pulseArrives r) :=
    execPulseArrival_first (htransit ▸ takeTransit_first ha hr)
  subst hr
  rw [hexec]
  have halone (hfar : ∀ x ∈ other, ¬ near x) : takeWithin r.mid w other = none :=
    takeWithin_none fun x hx => mt (hnear x).1 (hfar x hx)
  refine ⟨fun hfar hlen => ?_, fun head rest hfar hside hlen => ?_, fun xs ys x hother hxs hx hstrip => ?_⟩
  · rw [State.pulseArrives_alone (s := s.setTransit (a ++ b)) (halone hfar),
      State.waitSide_joins (s := s.setTransit (a ++ b)) hlen]
    rfl
  · rw [State.pulseArrives_alone (s := s.setTransit (a ++ b)) (halone hfar),
      State.waitSide_overflows (s := s.setTransit (a ++ b)) hside hlen]
    rfl
  · have htake : takeWithin r.mid w other = some (x.pulse, xs ++ ys) := by
      rw [hother]
      exact takeWithin_first (fun y hy => mt (hnear y).1 (hxs y hy)) ((hnear x).2 hx)
    rw [State.pulseArrives_pairs (s := s.setTransit (a ++ b)) htake, RowHit.ofPair_full rfl hstrip hw hx]
    rfl

end Sys2Proof.Machine

namespace Sys2Proof.Machine

/-! ### Rows, wheels and loads (R89 to R95) -/

theorem RowHit.pulses_inUse_iff {s : State} {x : RowHit} : (x.pulses.all fun r => s.shu[r.strip].state.delivers) = true ↔
    ∀ r ∈ x.pulses, s.shu[r.strip].state ≠ .outOfService ∧ s.shu[r.strip].state ≠ .disabled := by
  simp only [List.all_eq_true, Service.delivers_iff]

/-- A usable row is present, holds both wheels and lies on strips that are in use (R92). -/
theorem State.usableRow_iff {s : State} {h : Option RowHit} : s.usableRow h = true ↔
    ∃ x, h = some x ∧ x.kind ≠ .half ∧
      ∀ r ∈ x.pulses, s.shu[r.strip].state ≠ .outOfService ∧ s.shu[r.strip].state ≠ .disabled := by
  cases h with
  | none => simp [State.usableRow]
  | some x =>
    simp only [State.usableRow, Bool.and_eq_true, decide_eq_true_eq, RowHit.pulses_inUse_iff, Option.some.injEq,
      exists_eq_left']

theorem State.wheel_eq (s : State) (v : Nat) (r : PulseRecord) : s.wheel v r =
    if r.long then 0
    else min ((r.area * v * (min 65535 ((s.cst.working.strip[r.strip].gainAt s.ptu.lane[laneOf r.strip].tl *
      (4096 + s.cst.working.lane[laneOf r.strip].trim) + 2048) / 4096)).toNat + 2147483648) / 4294967296) 65535 := by
  simp only [State.wheel, wheelLoad, effectiveGain, min_comm (65535 : Int)]

theorem State.rowLoad_eq (s : State) (v : Nat) (h : Option RowHit) :
    s.rowLoad v h = ((h.toList.flatMap RowHit.pulses).map (s.wheel v)).sum := by
  cases h with
  | none => rfl
  | some x => simp only [State.rowLoad, Option.toList_some, List.flatMap_singleton]

/-- The speed of a two-row axle is held within the site-wide limits, whatever its interval (R84). -/
theorem Candidate.speed_of_delta {c : Candidate} {d : Nat} (h : c.delta = some d) (spacing : Nat) :
    (c.speed spacing).1 = max 556 (min (spacing * 16000 / d) 69444) := by
  simp only [Candidate.speed, h, rawSpeed]

theorem Candidate.speed_of_borrowed {c : Candidate} {v : Nat} (hd : c.delta = none) (hb : c.borrowed = some v) (spacing : Nat) :
    (c.speed spacing).1 = v := by
  simp only [Candidate.speed, hd, hb, Option.getD_some]

/-! ### The flags of an axle, bit by bit (R84, R93, R94, R97 to R99, R130) -/

/-- The interval of a two-row axle gives a speed outside the site-wide limits (R84). -/
def Candidate.offLimits (c : Candidate) (spacing : Nat) : Bool :=
  c.delta.any fun d => decide (rawSpeed spacing d < Config.vMin) || decide (Config.vMax < rawSpeed spacing d)

/-- A pulse of the candidate comes from a strip that meets p. -/
def Candidate.onStrip (c : Candidate) (p : Strip → Bool) : Bool := (c.pulses.map (·.strip)).any p

/-- What the weighing adds to the candidate's flags, by the bit numbers of R130. -/
def State.addsFlag (s : State) (c : Candidate) (k : Nat) : Bool :=
  match k with
  | 6 => s.usableRow c.up ^^ s.usableRow c.down
  | 7 => !s.usableRow c.up && !s.usableRow c.down
  | 8 => c.offLimits s.cst.working.lane[c.lane].spacing
  | 9 => s.usableRow c.up && s.usableRow c.down &&
      rowsDisagree s.par.lane[c.lane].rdt (s.weigh c).entry.uLoad (s.weigh c).entry.dLoad
  | 10 => c.onStrip fun i => s.ptu.lane[laneOf i].validity = .invalid
  | 11 => s.cst.invalid
  | 12 => s.cst.closed
  | 13 => s.cst.unstored
  | 14 => c.onStrip fun i => s.ptu.lane[laneOf i].validity = .held
  | 15 => c.onStrip fun i => s.shu[i].state = .suspect || s.shu[i].state = .recovering
  | _ => false

theorem State.addsFlag_outside {s : State} {c : Candidate} {k : Nat} (h : k < 6 ∨ 15 < k) : s.addsFlag c k = false := by
  unfold State.addsFlag
  split
  case h_11 => rfl
  all_goals omega

theorem codeBit_getLsbD {j : Nat} (hj : j < 32) (k : Nat) : (codeBit j).getLsbD k = decide (k = j) := by
  have hbit : (codeBit j).getLsbD k = (decide (k < 32) && decide (j = k)) := by
    rw [← Nat.testBit_two_pow, ← Nat.one_shiftLeft]
    exact BitVec.getLsbD_ofNat ..
  rw [hbit, ← Bool.decide_and]
  exact decide_eq_decide.2 (by omega)

/-- Code j of R130 when the weighing adds it. -/
def State.addedCode (s : State) (c : Candidate) (j : Nat) : CodeSet := codeIf (s.addsFlag c j) (codeBit j)

theorem State.addedCode_getLsbD {s : State} {c : Candidate} {j : Nat} (hj : j < 32) (k : Nat) :
    (s.addedCode c j).getLsbD k = (s.addsFlag c k && decide (k = j)) := by
  by_cases h : k = j
  · subst h
    cases hf : s.addsFlag c k <;> simp [State.addedCode, codeIf, hf, codeBit_getLsbD hj]
  · cases hf : s.addsFlag c j <;> simp [State.addedCode, codeIf, hf, codeBit_getLsbD hj, h]

theorem Candidate.speed_flag (c : Candidate) (spacing : Nat) :
    (c.speed spacing).2 = codeIf (c.offLimits spacing) flagSpeedLimit := by
  cases h : c.delta with
  | none => simp only [Candidate.speed, Candidate.offLimits, h]; rfl
  | some d => simp only [Candidate.speed, Candidate.offLimits, h, Option.any_some]

theorem axleLoad_flags (u d both : Bool) (x y : Nat) : (axleLoad u d both x y).2 =
    codeIf (u ^^ d) flagSingleRow ||| codeIf (!u && !d) flagNoFullRow := by
  cases u <;> cases d <;> simp [axleLoad, codeIf]

theorem State.weigh_flags (s : State) (c : Candidate) : (s.weigh c).entry.flags =
    c.flags ||| s.addedCode c 8 ||| (s.addedCode c 6 ||| s.addedCode c 7) ||| s.addedCode c 9 |||
      (s.addedCode c 15 ||| s.addedCode c 14 ||| s.addedCode c 10 ||| s.addedCode c 11 ||| s.addedCode c 12 |||
        s.addedCode c 13) := by
  simp only [State.weigh, Candidate.speed_flag, axleLoad_flags]
  rfl

/-- The flags of a weighed axle are the candidate's and those that the weighing adds. -/
theorem State.weigh_flags_bit (s : State) (c : Candidate) (k : Nat) :
    (s.weigh c).entry.flags.getLsbD k = (c.flags.getLsbD k || s.addsFlag c k) := by
  rw [State.weigh_flags]
  simp only [BitVec.getLsbD_or, State.addedCode_getLsbD, Nat.reduceLT]
  cases hk : s.addsFlag c k with
  | false => simp only [Bool.false_and, Bool.or_false]
  | true =>
    have hrange : 6 ≤ k ∧ k ≤ 15 := by
      by_contra hout
      rw [State.addsFlag_outside (by omega)] at hk
      cases hk
    simp only [Bool.true_and, Bool.or_true, Bool.or_eq_true, decide_eq_true_eq]
    omega

theorem Candidate.offLimits_iff {c : Candidate} {spacing : Nat} : c.offLimits spacing = true ↔
    ∃ d, c.delta = some d ∧ (spacing * 16000 / d < 556 ∨ 69444 < spacing * 16000 / d) := by
  simp only [Candidate.offLimits, Option.any_eq_true, Bool.or_eq_true, decide_eq_true_eq]
  rfl

theorem Candidate.onStrip_iff {c : Candidate} {p : Strip → Bool} :
    c.onStrip p = true ↔ ∃ r ∈ c.pulses, p r.strip = true := by
  simp only [Candidate.onStrip, List.any_map, List.any_eq_true, Function.comp_apply]

/-- Settles O41: speed, row loads and wheels by the lemma of each, the axle load by which rows are usable, the flags bit by
bit. -/
theorem axlesAreWeighedFromTheirRows : Obligations.AxlesAreWeighedFromTheirRows := by
  intro s c e spacing hits pulses keff wheel row side usable adds
  have husable (h : Option RowHit) : s.usableRow h = true ↔ usable h := State.usableRow_iff
  have hunusable {h : Option RowHit} (hu : ¬ usable h) : s.usableRow h = false := Bool.eq_false_iff.2 (mt (husable h).1 hu)
  have hwheel : s.wheel e.speed = wheel := funext (State.wheel_eq s e.speed)
  have hrow (h : Option RowHit) : s.rowLoad e.speed h = row h := by
    rw [State.rowLoad_eq, hwheel]
    rfl
  have hside (pick : RowHit → Option PulseRecord) :
      sideLoad ((c.hits.filterMap pick).map (s.wheel e.speed)) = side pick := by
    rw [hwheel]
    rfl
  have hload : e.load =
      (axleLoad (s.usableRow c.up) (s.usableRow c.down) (c.up.isSome && c.down.isSome) e.uLoad e.dLoad).1 := rfl
  have hadds (k : Nat) : s.addsFlag c k = true ↔ adds k := by
    simp only [adds]
    split
    next =>
      rw [← husable, ← husable, State.addsFlag]
      cases s.usableRow c.up <;> cases s.usableRow c.down <;> decide
    next => simp only [State.addsFlag, Bool.and_eq_true, Bool.not_eq_true', Bool.eq_false_iff, ne_eq, husable]
    next => exact Candidate.offLimits_iff
    next =>
      simp only [State.addsFlag, Bool.and_eq_true, husable, and_assoc]
      exact and_congr_right fun _ => and_congr_right fun _ => decide_eq_true_iff
    next => exact Candidate.onStrip_iff.trans (by simp only [decide_eq_true_eq]; rfl)
    next => rfl
    next => rfl
    next => rfl
    next => exact Candidate.onStrip_iff.trans (by simp only [decide_eq_true_eq]; rfl)
    next => exact Candidate.onStrip_iff.trans (by simp only [Bool.or_eq_true, decide_eq_true_eq]; rfl)
    next =>
      have hout : k < 6 ∨ 15 < k := by grind
      exact iff_of_false (by rw [State.addsFlag_outside hout]; decide) id
  refine ⟨rfl, rfl, rfl, fun d hd => Candidate.speed_of_delta hd _, fun v hb hd => Candidate.speed_of_borrowed hd hb _,
    hrow c.up, hrow c.down, fun hu hd => ?_, fun hu hd => ?_, fun hu hd => ?_, fun hu hd hup hdown => ?_, fun hu hdown => ?_,
    fun hup hd => ?_, hside fun h => h.left, hside fun h => h.right, fun k => ?_, rfl⟩
  · simp only [hload, (husable _).2 hu, (husable _).2 hd]
    rfl
  · simp only [hload, (husable _).2 hu, hunusable hd]
    rfl
  · simp only [hload, hunusable hu, (husable _).2 hd]
    rfl
  · simp only [hload, hunusable hu, hunusable hd, hup, hdown]
    rfl
  · have hzero : e.dLoad = 0 := by rw [show e.dLoad = row c.down from hrow c.down, hdown]; rfl
    simp only [hload, hunusable hu, hdown, hzero, Option.isSome_none, Bool.and_false]
    rfl
  · have hzero : e.uLoad = 0 := by rw [show e.uLoad = row c.up from hrow c.up, hup]; rfl
    simp only [hload, hunusable hd, hup, hzero, Option.isSome_none, Bool.false_and]
    exact Nat.zero_add e.dLoad
  · rw [State.weigh_flags_bit, Bool.or_eq_true, hadds]

end Sys2Proof.Machine

namespace Sys2Proof.Machine

/-! ### The interpolated and the effective gain (R86 to R88) -/

/-- The gain at breakpoint `i` plus the rounded fraction `f` / 240 of the step to breakpoint `i` + 1 (R87). -/
def StripCal.interpolated (c : StripCal) (i : Fin 8) (f : Int) : Int :=
  (c.k[i.castSucc] : Int) + (((c.k[i.succ] : Int) - c.k[i.castSucc]) * f + 120) / 240

theorem StripCal.gain_eq (c : StripCal) (i : Fin 9) : c.gain i = c.k[i] := by
  rw [StripCal.gain, List.getD_eq_getElem _ _ (by simp), Vector.getElem_toList]
  rfl

theorem StripCal.gainAt_of_top (c : StripCal) {tl : Int} (h : clamp (-640) 1280 tl = 1280) : c.gainAt tl = c.k[8] := by
  rw [StripCal.gainAt, h]
  exact c.gain_eq 8

theorem StripCal.gainAt_of_inside (c : StripCal) {tl : Int} {i : Fin 8} (hlow : 240 * (i.val : Int) - 640 ≤ clamp (-640) 1280 tl)
    (hhigh : clamp (-640) 1280 tl < 240 * (i.val : Int) - 400) :
    c.gainAt tl = c.interpolated i (clamp (-640) 1280 tl + 640 - 240 * i.val) := by
  have htop : clamp (-640) 1280 tl ≠ 1280 := by omega
  have hindex : (clamp (-640) 1280 tl + 640) / 240 = i.val := by omega
  simp only [StripCal.gainAt, if_neg htop, hindex, Int.toNat_natCast]
  rw [show c.gain i.val = c.k[i.castSucc] from c.gain_eq i.castSucc,
    show c.gain (i.val + 1) = c.k[i.succ] from c.gain_eq i.succ]
  rfl

theorem StripCal.interpolated_start (c : StripCal) (i : Fin 8) : c.interpolated i 0 = c.k[i.castSucc] := by
  simp [StripCal.interpolated]

theorem StripCal.interpolated_end (c : StripCal) (i : Fin 8) : c.interpolated i 240 = c.k[i.succ] := by
  rw [StripCal.interpolated]
  omega

/-- At an upper breakpoint the next interval's start, or K8, is this interval's end. -/
theorem StripCal.gainAt_of_upper (c : StripCal) {tl : Int} {i : Fin 8}
    (h : clamp (-640) 1280 tl = 240 * (i.val : Int) - 400) : c.gainAt tl = c.k[i.succ] := by
  induction i using Fin.lastCases with
  | last => exact c.gainAt_of_top h
  | cast j =>
    have hnext : ((j.succ : Fin 8).val : Int) = j.castSucc.val + 1 := rfl
    rw [c.gainAt_of_inside (i := j.succ) (by omega) (by omega), h, hnext,
      show 240 * ((j.castSucc.val : Int)) - 400 + 640 - 240 * (j.castSucc.val + 1) = 0 by omega]
    exact c.interpolated_start j.succ

/-- R87's formula holds up to and with the upper breakpoint of each interval. -/
theorem StripCal.gainAt_of_between (c : StripCal) {tl : Int} {i : Fin 8}
    (hlow : 240 * (i.val : Int) - 640 ≤ clamp (-640) 1280 tl) (hhigh : clamp (-640) 1280 tl ≤ 240 * (i.val : Int) - 400) :
    c.gainAt tl = c.interpolated i (clamp (-640) 1280 tl + 640 - 240 * i.val) := by
  obtain hinside | hupper := Int.lt_or_eq_of_le hhigh
  · exact c.gainAt_of_inside hlow hinside
  · rw [c.gainAt_of_upper hupper, hupper, show 240 * (i.val : Int) - 400 + 640 - 240 * i.val = 240 by omega,
      c.interpolated_end]

/-- The step times the fraction stays between 0 and 240 steps, on either side, so the rounding cannot leave the interval. -/
theorem roundedFraction_bounds (low high : Int) {f : Int} (h0 : 0 ≤ f) (h240 : f ≤ 240) :
    min low high ≤ low + ((high - low) * f + 120) / 240 ∧ low + ((high - low) * f + 120) / 240 ≤ max low high := by
  obtain hup | hdown := le_total low high
  · have hnonneg : 0 ≤ (high - low) * f := Int.mul_nonneg (by omega) h0
    have hle : (high - low) * f ≤ (high - low) * 240 := Int.mul_le_mul_of_nonneg_left h240 (by omega)
    omega
  · have hnonpos : (high - low) * f ≤ 0 := Int.mul_nonpos_of_nonpos_of_nonneg (by omega) h0
    have hge : (high - low) * 240 ≤ (high - low) * f := Int.mul_le_mul_of_nonpos_left (by omega) h240
    omega

theorem StripCal.gainAt_bounds (c : StripCal) {tl : Int} {i : Fin 8}
    (hlow : 240 * (i.val : Int) - 640 ≤ clamp (-640) 1280 tl) (hhigh : clamp (-640) 1280 tl ≤ 240 * (i.val : Int) - 400) :
    min (c.k[i.castSucc] : Int) c.k[i.succ] ≤ c.gainAt tl ∧ c.gainAt tl ≤ max (c.k[i.castSucc] : Int) c.k[i.succ] := by
  rw [c.gainAt_of_between hlow hhigh]
  exact roundedFraction_bounds _ _ (by omega) (by omega)

/-- A trim from −512 keeps at least 7/8 of the gain, which rounds to at least 1. -/
theorem effectiveGain_bounds {kt trim : Int} (hkt : 1 ≤ kt) (htrim : -512 ≤ trim) :
    1 ≤ effectiveGain kt trim ∧ effectiveGain kt trim ≤ 65535 := by
  have hscaled : 1 * 3584 ≤ kt * (4096 + trim) := Int.mul_le_mul hkt (by omega) (by decide) (by omega)
  rw [effectiveGain]
  omega

theorem effectiveGain_of_noTrim {kt : Int} (h : kt ≤ 65535) : effectiveGain kt 0 = kt := by
  rw [effectiveGain]
  omega

/-- Settles O40: R87's formula holds on each closed interval, its fraction lies from 0 to 240, and R88 by its bounds. -/
theorem gainLiesBetweenItsBreakpoints : Obligations.GainLiesBetweenItsBreakpoints := by
  refine ⟨fun c tl => ⟨c.gainAt_of_top, fun _ => ⟨c.gainAt_of_inside, c.gainAt_bounds⟩⟩,
    fun kt trim hkt hkt' htrim _ => ?_⟩
  obtain ⟨hone, hmax⟩ := effectiveGain_bounds hkt htrim
  exact ⟨min_comm _ _, hone, hmax, fun hzero => hzero ▸ effectiveGain_of_noTrim hkt'⟩

end Sys2Proof.Machine

/-! PROOFS. Vehicle assembly: how a vehicle closes, and the close deadline (R103, R106 to R108, R116 to R118). -/

namespace Sys2Proof.Machine

/-! ### The context of a lane (R103) -/

/-- The context of a lane replaced. -/
def State.withContext (s : State) (n : Lane) (c : Context) : State := s.updLane n fun l => { l with ctx := c }

theorem State.withContext_ctx (s : State) (n : Lane) (c : Context) (m : Lane) :
    (s.withContext n c).vau.lane[m].ctx = if n = m then c else s.vau.lane[m].ctx := by
  rw [State.withContext, State.updLane_vau, upd_get]
  split <;> rfl

/-! ### A vehicle closes (R106, R108, R116 to R118) -/

theorem State.closeRecord_eq (s : State) (n : Lane) (number : Nat) : s.closeRecord n number = afterClose s n number := rfl

section
variable {s : State} {n : Lane}

theorem State.closeVehicle_linked {number : Nat} {p : Progress} (h : s.vau.lane[n].ctx = .linked number p) :
    s.closeVehicle n = afterClose s n number := by
  simp only [State.closeVehicle, h, State.closeRecord_eq]

theorem State.closeVehicle_unrecorded {p : Progress} (h : s.vau.lane[n].ctx = .unrecorded p) :
    s.closeVehicle n = s.withContext n .empty := by
  simp only [State.closeVehicle, h, State.withContext]

theorem State.closeVehicle_empty (h : s.vau.lane[n].ctx = .empty) : s.closeVehicle n = s := by
  simp only [State.closeVehicle, h]

end

/-- A closed vehicle leaves its lane's context EMPTY and the other contexts as they are. -/
theorem afterClose_ctx (s : State) (n : Lane) (number : Nat) (m : Lane) :
    (afterClose s n number).vau.lane[m].ctx = if n = m then .empty else s.vau.lane[m].ctx := by
  rw [← State.closeRecord_eq, State.closeRecord, State.updLane_vau, upd_get]
  split <;> rfl

/-- Settles O43: a passed deadline is due, and the vehicle closes as its context says. -/
theorem closeDeadlineClosesTheVehicle : Obligations.CloseDeadlineClosesTheVehicle := by
  intro s n p late hpos hlate
  have hpassed : passed p.deadline s.siteTime = true := passed_iff.2 ⟨hpos, hlate⟩
  have hexec (hdue : s.closeDue n = true) : exec (.closeDeadlineExpiry n) s = .next (s.closeVehicle n) :=
    congrArg Host.Outcome.next (if_pos hdue)
  refine ⟨fun number hctx => ?_, fun hctx => ?_⟩
  · rw [hexec (by simp only [State.closeDue, hctx, Context.deadline?, hpassed]), State.closeVehicle_linked hctx]
  · rw [hexec (by simp only [State.closeDue, hctx, Context.deadline?, hpassed]), State.closeVehicle_unrecorded hctx]
    rfl

end Sys2Proof.Machine

namespace Sys2Proof.Machine

/-! ### Groups (R116) -/

/-- The groups cut the loads from position p on: each starts where the one before it ends, holds at least one load and
carries the sum of its loads. -/
def CutsFrom (p : Nat) (loads : List Nat) : List Group → Prop
  | [] => loads = []
  | g :: gs => g.first = p ∧ 1 ≤ g.count ∧ g.count ≤ loads.length ∧ g.sum = (loads.take g.count).sum ∧
      CutsFrom (p + g.count) (loads.drop g.count) gs

theorem groupsFrom_cons (grp : Nat) (cur : Group) (w x : Nat) (ws xs : List Nat) : groupsFrom grp cur (w :: ws) (x :: xs) =
    if x ≤ grp then groupsFrom grp { cur with count := cur.count + 1, sum := cur.sum + w } ws xs
    else cur :: groupsFrom grp { first := cur.first + cur.count, count := 1, sum := w } ws xs := rfl

/-- The groups that follow a group under way cut its loads and the loads to come. -/
theorem groupsFrom_cuts (grp : Nat) {cur : Group} {done : List Nat} (hcount : cur.count = done.length) (hpos : 1 ≤ cur.count)
    (hsum : cur.sum = done.sum) (ws sp : List Nat) : CutsFrom cur.first (done ++ ws) (groupsFrom grp cur ws sp) := by
  induction ws generalizing cur done sp with
  | nil => simp [groupsFrom, CutsFrom, hcount, hsum, hcount ▸ hpos]
  | cons w ws ih =>
    rw [groupsFrom]
    split
    · have hnext := ih (cur := { cur with count := cur.count + 1, sum := cur.sum + w }) (done := done ++ [w])
        (by simp [hcount]) (Nat.le_add_left 1 cur.count) (by simp [hsum]) sp.tail
      simpa using hnext
    · have hnext := ih (cur := { first := cur.first + cur.count, count := 1, sum := w }) (done := [w]) rfl (le_refl 1)
        (by simp) sp.tail
      refine ⟨rfl, hpos, by simp [hcount], by simp [hcount, hsum], ?_⟩
      simpa [hcount] using hnext

theorem formGroups_cuts (grp : Nat) (loads spacings : List Nat) : CutsFrom 0 loads (formGroups grp loads spacings) := by
  cases loads with
  | nil => rfl
  | cons w ws =>
    exact groupsFrom_cuts grp (cur := { first := 0, count := 1, sum := w }) (done := [w]) rfl (le_refl 1) (by simp) ws _

theorem CutsFrom.counts {p : Nat} {loads : List Nat} {gs : List Group} (h : CutsFrom p loads gs) :
    (gs.map (·.count)).sum = loads.length := by
  induction gs generalizing p loads with
  | nil => simp [show loads = [] from h]
  | cons g gs ih =>
    obtain ⟨-, -, hle, -, hrest⟩ := h
    rw [List.map_cons, List.sum_cons, ih hrest, List.length_drop]
    omega

theorem CutsFrom.sums {p : Nat} {loads : List Nat} {gs : List Group} (h : CutsFrom p loads gs) :
    (gs.map (·.sum)).sum = loads.sum := by
  induction gs generalizing p loads with
  | nil => simp [show loads = [] from h]
  | cons g gs ih =>
    obtain ⟨-, -, -, hsum, hrest⟩ := h
    rw [List.map_cons, List.sum_cons, ih hrest, hsum, List.sum_take_add_sum_drop]

theorem CutsFrom.count_pos {p : Nat} {loads : List Nat} {gs : List Group} (h : CutsFrom p loads gs) :
    ∀ g ∈ gs, 1 ≤ g.count := by
  induction gs generalizing p loads with
  | nil => nofun
  | cons g gs ih =>
    obtain ⟨-, hpos, -, -, hrest⟩ := h
    exact List.forall_mem_cons.2 ⟨hpos, ih hrest⟩

/-- A group starts behind the loads of the groups before it and sums its own. -/
theorem CutsFrom.group {p : Nat} {loads : List Nat} {gs : List Group} (h : CutsFrom p loads gs) (k : Nat)
    (hk : k < gs.length) :
    gs[k].first = p + ((gs.take k).map (·.count)).sum ∧
    gs[k].sum = ((loads.drop ((gs.take k).map (·.count)).sum).take gs[k].count).sum := by
  induction gs generalizing p loads k with
  | nil => cases hk
  | cons g gs ih =>
    obtain ⟨hfirst, -, -, hsum, hrest⟩ := h
    cases k with
    | zero => exact ⟨hfirst, hsum⟩
    | succ k =>
      obtain ⟨hf, hs⟩ := ih hrest k (Nat.lt_of_succ_lt_succ hk)
      simp only [List.getElem_cons_succ, List.take_succ_cons, List.map_cons, List.sum_cons]
      refine ⟨hf.trans (Nat.add_assoc _ _ _), ?_⟩
      rw [hs, List.drop_drop]

/-- A group begins where the group under way does, and at each axle whose spacing from the one before it is above GRP. -/
theorem groupsFrom_first_iff (grp : Nat) (cur : Group) {ws sp : List Nat} (hlen : sp.length = ws.length) (p : Nat) :
    (∃ g ∈ groupsFrom grp cur ws sp, g.first = p) ↔
      p = cur.first ∨ ∃ j < sp.length, grp < sp.getD j 0 ∧ p = cur.first + cur.count + j := by
  induction ws generalizing cur sp with
  | nil => simp [groupsFrom, List.length_eq_zero_iff.1 hlen, eq_comm]
  | cons w ws ih =>
    obtain ⟨x, xs, rfl⟩ := List.exists_cons_of_length_eq_add_one hlen
    have hxs : xs.length = ws.length := Nat.succ.inj hlen
    have hsplit (q : Nat → Prop) : (∃ j < (x :: xs).length, grp < (x :: xs).getD j 0 ∧ q j) ↔
        (grp < x ∧ q 0) ∨ ∃ j < xs.length, grp < xs.getD j 0 ∧ q (j + 1) := by
      rw [List.length_cons, Nat.exists_lt_succ_left]
      simp only [List.getD_cons_zero, List.getD_cons_succ]
    rw [hsplit, groupsFrom_cons]
    split
    next hx =>
      rw [ih _ hxs]
      simp only [Nat.not_lt.2 hx, false_and, false_or, Nat.add_assoc, Nat.add_comm 1]
    next hx =>
      simp only [List.mem_cons, exists_eq_or_imp, ih _ hxs, Nat.not_le.1 hx, true_and, Nat.add_assoc, Nat.add_comm 1,
        Nat.add_zero, eq_comm (a := cur.first)]

/-- Behind the first axle a group begins exactly where a spacing is above GRP. -/
theorem formGroups_first_iff (grp w : Nat) {ws sp : List Nat} (hlen : sp.length = ws.length) (j : Nat) :
    (∃ g ∈ formGroups grp (w :: ws) sp, g.first = j + 1) ↔ j < sp.length ∧ grp < sp.getD j 0 := by
  rw [formGroups, groupsFrom_first_iff _ _ hlen]
  simp only [Nat.add_eq_zero_iff, Nat.one_ne_zero, false_and, false_or, Nat.zero_add, Nat.add_comm j 1,
    Nat.add_left_cancel_iff]
  exact ⟨fun ⟨i, hi, hgap, hj⟩ => hj ▸ ⟨hi, hgap⟩, fun ⟨hj, hgap⟩ => ⟨j, hj, hgap, rfl⟩⟩

/-- Settles O44: the groups cut the loads, and begin where a spacing is above GRP. -/
theorem groupsPartitionTheAxles : Obligations.GroupsPartitionTheAxles := by
  intro s r hpos hsp hgross gs
  have hcuts : CutsFrom 0 (r.axles.map (·.load)) gs := formGroups_cuts _ _ _
  refine ⟨by simpa using hcuts.counts, hcuts.sums.trans hgross.symm, hcuts.count_pos, fun k hk => ?_, fun j hj => ?_⟩
  · obtain ⟨hfirst, hsum⟩ := hcuts.group k hk
    rw [Nat.zero_add] at hfirst
    refine ⟨hfirst, ?_⟩
    rw [List.map_take, List.map_drop, hfirst]
    exact hsum
  · obtain ⟨a, as, haxles⟩ := List.exists_cons_of_length_pos hpos
    have hlen : r.spacings.length = (as.map (·.load)).length := by simp [hsp, haxles]
    have hgs : gs = formGroups s.par.grp (a.load :: as.map (·.load)) r.spacings := by
      simp only [gs, closedGroups, haxles, List.map_cons]
    rw [hgs, formGroups_first_iff _ _ hlen, and_iff_right hj]

end Sys2Proof.Machine

namespace Sys2Proof.Machine

/-! ### Record numbers (R112) -/

theorem numberAfter_succ (c j : Nat) : numberAfter c (j + 1) = nextNumber (numberAfter c j) := rfl

theorem numberAfter_nextNumber (c j : Nat) : numberAfter (nextNumber c) j = numberAfter c (j + 1) := by
  induction j with
  | zero => rfl
  | succ j ih => rw [numberAfter_succ, ih, numberAfter_succ _ (j + 1)]

theorem nextNumber_bounds (c : Nat) : 1 ≤ nextNumber c ∧ nextNumber c ≤ 65535 := by
  unfold nextNumber
  split <;> omega

theorem numberAfter_bounds {c : Nat} (h : 1 ≤ c ∧ c ≤ 65535) (j : Nat) : 1 ≤ numberAfter c j ∧ numberAfter c j ≤ 65535 := by
  cases j with
  | zero => exact h
  | succ j => exact nextNumber_bounds _

/-- The candidates of R112 in closed form: up to 65535, then from 1 on. -/
theorem numberAfter_eq (c : Nat) {j : Nat} (h : j ≤ 40) : numberAfter c j =
    if j = 0 ∨ c + j ≤ 65535 then c + j else if c ≤ 65535 then c + j - 65535 else j := by
  induction j with
  | zero => rfl
  | succ j ih =>
    rw [numberAfter_succ, ih (by omega), nextNumber]
    grind

theorem numberAfter_injOn (c : Nat) {i j : Nat} (hi : i ≤ 40) (hj : j ≤ 40) (h : numberAfter c i = numberAfter c j) :
    i = j := by
  rw [numberAfter_eq c hi, numberAfter_eq c hj] at h
  split_ifs at h <;> omega

/-- Among 41 candidates one is not in use when at most 40 numbers are. -/
theorem exists_free_number {used : List Nat} (h : used.length ≤ 40) (c : Nat) : ∃ j < 41, numberAfter c j ∉ used := by
  by_contra hall
  push Not at hall
  have hnodup : ((List.range 41).map (numberAfter c)).Nodup :=
    List.nodup_range.map_on fun i hi j hj => numberAfter_injOn c (by simpa using Nat.le_of_lt_succ (List.mem_range.1 hi))
      (by simpa using Nat.le_of_lt_succ (List.mem_range.1 hj))
  have hsub : (List.range 41).map (numberAfter c) ⊆ used := fun k hk => by
    obtain ⟨j, hj, rfl⟩ := List.mem_map.1 hk
    exact hall j (List.mem_range.1 hj)
  have hlen := (hnodup.subperm hsub).length_le
  rw [List.length_map, List.length_range] at hlen
  omega

/-- The search of R112 ends at the first candidate that is not in use. -/
theorem freeNumber_first {used : List Nat} {fuel c : Nat} (h : ∃ j < fuel, numberAfter c j ∉ used) :
    ∃ j < fuel, freeNumber used fuel c = numberAfter c j ∧ numberAfter c j ∉ used ∧ ∀ i < j, numberAfter c i ∈ used := by
  induction fuel generalizing c with
  | zero => obtain ⟨j, hj, -⟩ := h; cases hj
  | succ fuel ih =>
    rw [freeNumber]
    split
    next hc =>
      have hrest : ∃ j < fuel, numberAfter (nextNumber c) j ∉ used := by
        obtain ⟨j, hj, hfree⟩ := h
        cases j with
        | zero => exact absurd hc hfree
        | succ j => exact ⟨j, Nat.lt_of_succ_lt_succ hj, by rwa [numberAfter_nextNumber]⟩
      obtain ⟨j, hj, heq, hfree, hbefore⟩ := ih hrest
      simp only [numberAfter_nextNumber] at heq hfree hbefore
      refine ⟨j + 1, Nat.succ_lt_succ hj, heq, hfree, fun i hi => ?_⟩
      cases i with
      | zero => exact hc
      | succ i => exact hbefore i (Nat.lt_of_succ_lt_succ hi)
    next hc => exact ⟨0, Nat.succ_pos fuel, rfl, hc, nofun⟩

/-- The number of a new record is the one that R112 allocates. -/
theorem Vrt.nextFree_allocated {v : Vrt} (h : v.live.length ≤ 40) : allocated v v.nextFree := by
  obtain ⟨j, hj, heq, hfree, hbefore⟩ :=
    freeNumber_first (exists_free_number (used := v.live.map (·.number)) (by simpa using h) v.counter)
  rw [← heq] at hfree
  exact ⟨j, Nat.le_of_lt_succ hj, heq, hfree, hbefore⟩

theorem allocated.fresh {v : Vrt} {number : Nat} (h : allocated v number) : number ∉ v.live.map (·.number) := by
  obtain ⟨-, -, -, hfree, -⟩ := h
  exact hfree

theorem allocated.bounds {v : Vrt} {number : Nat} (h : allocated v number) (hc : 1 ≤ v.counter ∧ v.counter ≤ 65535) :
    1 ≤ number ∧ number ≤ 65535 := by
  obtain ⟨j, -, rfl, -, -⟩ := h
  exact numberAfter_bounds hc j

/-! ### An axle in progress (R103, R107) -/

/-- The state of a lane whose record of a number has taken an axle: linked to it, or closed at once when the close deadline
has passed (R108). -/
def State.linkOrClose (s : State) (a : WeighedAxle) (number : Nat) : State :=
  if passed (s.progressAfter a).deadline s.siteTime then afterClose s a.lane number
  else s.withContext a.lane (.linked number (s.progressAfter a))

/-- The state of a lane whose vehicle is followed without a record (R108, R111). -/
def State.followOrDrop (s : State) (a : WeighedAxle) : State :=
  s.withContext a.lane
    (if passed (s.progressAfter a).deadline s.siteTime then .empty else .unrecorded (s.progressAfter a))

section
variable {s : State} {n : Lane} {p : Progress} {number : Nat}

theorem State.closeIfPassed_linked (h : s.vau.lane[n].ctx = .linked number p) :
    s.closeIfPassed n = if passed p.deadline s.siteTime then afterClose s n number else s := by
  simp only [State.closeIfPassed, h, State.closeVehicle_linked h]

theorem State.closeIfPassed_unrecorded (h : s.vau.lane[n].ctx = .unrecorded p) :
    s.closeIfPassed n = if passed p.deadline s.siteTime then s.withContext n .empty else s := by
  simp only [State.closeIfPassed, h, State.closeVehicle_unrecorded h]

end

theorem State.withContext_withContext (s : State) (n : Lane) (c d : Context) :
    (s.withContext n c).withContext n d = s.withContext n d := by
  simp only [State.withContext, State.updLane, upd_upd]

/-- A closing record leaves no trace of the context it was linked from. -/
theorem afterClose_withContext (s : State) (n : Lane) (c : Context) (number : Nat) :
    afterClose (s.withContext n c) n number = afterClose s n number := by
  simp only [← State.closeRecord_eq, State.closeRecord, State.withContext, State.updLane, State.updVrt, upd_upd]

theorem State.linked_closeIfPassed (s : State) (a : WeighedAxle) (number : Nat) :
    (s.withContext a.lane (.linked number (s.progressAfter a))).closeIfPassed a.lane = s.linkOrClose a number := by
  rw [State.closeIfPassed_linked (by rw [State.withContext_ctx, if_pos rfl]), afterClose_withContext]
  rfl

theorem State.followAxle_eq (s : State) (a : WeighedAxle) : s.followAxle a = s.followOrDrop a := by
  rw [State.followAxle, ← State.withContext,
    State.closeIfPassed_unrecorded (p := s.progressAfter a) (by rw [State.withContext_ctx, if_pos rfl]),
    State.withContext_withContext, State.followOrDrop, apply_ite (s.withContext a.lane)]
  rfl

theorem State.appendAxle_eq (s : State) (number : Nat) (a : WeighedAxle) (sp : Nat) : s.appendAxle number a sp =
    (s.updRecord number fun r => r.append a sp s.cst.counter).linkOrClose a number :=
  State.linked_closeIfPassed (s.updRecord number fun r => r.append a sp s.cst.counter) a number

/-! ### Opening a record (R112 to R114) -/

/-- A record with its opening axle (R113, R114). -/
def State.firstRecord (s : State) (a : WeighedAxle) (number : Nat) : Record :=
  { number := number, lane := a.lane, state := .opened, held := false, unread := true, tag := none
    straddle := a.straddle, count := 1, overflow := false, calChanged := false, axles := [a.entry], spacings := []
    groups := [], gross := a.entry.load, meanSpeed := 0, classCode := 0, generation := 0, firstTime := a.entry.time
    lastTime := a.entry.time, closeTime := none, laneTemp := s.ptu.lane[a.lane].tl
    laneValidity := s.ptu.lane[a.lane].validity, calCounter := s.cst.counter, reasons := 0, certified := false }

theorem State.firstRecord_eq (s : State) (a : WeighedAxle) (number : Nat) :
    (Record.opening number a s.ptu.lane[a.lane] s.cst.counter).append a 0 s.cst.counter = s.firstRecord a number := by
  simp [Record.append, Record.opening, State.firstRecord]

/-- A record at the end of the live records, the counter behind its number (R112, R127). -/
def Vrt.enter (v : Vrt) (r : Record) : Vrt := { v with live := v.live ++ [r], counter := nextNumber r.number }

/-- A change of the record just entered touches no other, since no other carries its number. -/
theorem Vrt.update_enter {v : Vrt} {r : Record} (h : r.number ∉ v.live.map (·.number)) (f : Record → Record)
    (hf : (f r).number = r.number) : (v.enter r).update r.number f = v.enter (f r) := by
  have hold : v.live.map (fun q => if q.number = r.number then f q else q) = v.live := by
    refine (List.map_congr_left fun q hq => if_neg fun he => h ?_).trans (List.map_id _)
    exact he ▸ List.mem_map_of_mem hq
  simp only [Vrt.update, Vrt.enter, List.map_append, List.map_cons, List.map_nil, if_true, hold, hf]

theorem State.openRecord_eq {s : State} (a : WeighedAxle) (h : s.vrt.live.length ≤ 40) : s.openRecord a =
    (s.updVrt fun v => v.enter (s.firstRecord a s.vrt.nextFree)).linkOrClose a s.vrt.nextFree := by
  have hfresh := (Vrt.nextFree_allocated h).fresh
  have hentered := Vrt.update_enter (r := Record.opening s.vrt.nextFree a s.ptu.lane[a.lane] s.cst.counter) hfresh
    (fun r => r.append a 0 s.cst.counter) rfl
  rw [State.firstRecord_eq] at hentered
  exact (State.appendAxle_eq _ _ _ _).trans
    (congrArg (fun v => ({ s with vrt := v } : State).linkOrClose a s.vrt.nextFree) hentered)

/-! ### An entry to be had (R109, R110) -/

section
variable {s : State}

theorem State.acquire_free (h : s.vrt.live.length < 40) : s.acquire = some s := if_pos h

theorem State.acquire_full (h : 40 ≤ s.vrt.live.length) : s.acquire = s.vrt.evictable.map s.evict :=
  if_neg (Nat.not_lt.2 h)

end

/-- With every COMPLETE record held there is none to evict. -/
theorem Vrt.evictable_none {v : Vrt} (h : ∀ k ∈ v.completed, ∀ r ∈ v.live, r.number = k → r.held = true) :
    v.evictable = none := by
  refine List.find?_eq_none.2 fun r hr => ?_
  obtain ⟨k, hk, hfind⟩ := List.mem_filterMap.1 hr
  obtain ⟨hlive, hnum⟩ := Vrt.find_some hfind
  simp [h k hk r hlive hnum]

/-- The record evicted is the first unheld one of the completion-order list (R109). -/
theorem Vrt.evictable_first {v : Vrt} {xs ys : List Nat} {r : Record} (hr : r ∈ v.live)
    (hone : ∀ q ∈ v.live, q.number = r.number → q = r) (hcompleted : v.completed = xs ++ r.number :: ys)
    (hxs : ∀ k ∈ xs, ∀ q ∈ v.live, q.number = k → q.held = true) (hheld : r.held = false) :
    v.evictable = some r := by
  have hfind : v.find r.number = some r := by
    obtain ⟨q, hq⟩ : ∃ q, v.find r.number = some q :=
      Option.isSome_iff_exists.1 (List.find?_isSome.2 ⟨r, hr, decide_eq_true rfl⟩)
    obtain ⟨hlive, hnum⟩ := Vrt.find_some hq
    rw [hq, hone q hlive hnum]
  have hskip : (xs.filterMap v.find).find? (fun q => !q.held) = none :=
    Vrt.evictable_none (v := { v with completed := xs }) hxs
  rw [Vrt.evictable, hcompleted, List.filterMap_append, List.find?_append, List.filterMap_cons_some hfind, hskip]
  simp [hheld]

theorem State.evict_eq (s : State) (r : Record) : s.evict r = { s with
    vrt := s.vrt.free r.number
    vau := { s.vau with
      lane := upd s.vau.lane r.lane fun l => if r.unread then { l with evicted := min (l.evicted + 1) 65535 } else l } } := by
  cases h : r.unread with
  | true => simp only [State.evict, h, if_true]; rfl
  | false =>
    simp only [State.evict, h, Bool.false_eq_true, if_false, upd_eq_self s.vau.lane r.lane (fun l => l) rfl]
    rfl

/-- An eviction leaves every context as it is. -/
theorem State.evict_ctx (s : State) (r : Record) (m : Lane) : (s.evict r).vau.lane[m].ctx = s.vau.lane[m].ctx := by
  rw [State.evict_eq]
  simp only [upd_get]
  split_ifs <;> rfl

/-! ### An axle arrives (R104 to R106) -/

section
variable {s : State} {a : WeighedAxle}

theorem State.axleArrival_empty (h : s.vau.lane[a.lane].ctx = .empty) : s.axleArrival a = s.openVehicle a := by
  simp only [State.axleArrival, h]

theorem State.openVehicle_acquired {t : State} (h : s.acquire = some t) : s.openVehicle a = t.openRecord a := by
  simp only [State.openVehicle, h]

theorem State.openVehicle_unrecorded (h : s.acquire = none) : s.openVehicle a = s.openUnrecorded a := by
  simp only [State.openVehicle, h]

section
variable {number : Nat} {p : Progress} (h : s.vau.lane[a.lane].ctx = .linked number p)
include h

theorem State.axleArrival_joins (hj : s.joins p a = true) :
    s.axleArrival a = s.appendAxle number a (p.spacingTo a) := by
  simp only [State.axleArrival, h, hj, if_true]

theorem State.axleArrival_closes (hj : s.joins p a = false) :
    s.axleArrival a = (afterClose s a.lane number).openVehicle a := by
  simp only [State.axleArrival, h, hj, Bool.false_eq_true, if_false, State.closeAndOpen, State.closeVehicle_linked h]

end

section
variable {p : Progress} (h : s.vau.lane[a.lane].ctx = .unrecorded p)
include h

theorem State.axleArrival_follows (hj : s.joins p a = true) : s.axleArrival a = s.followOrDrop a := by
  simp only [State.axleArrival, h, hj, if_true, State.followAxle_eq]

theorem State.axleArrival_drops (hj : s.joins p a = false) :
    s.axleArrival a = (s.withContext a.lane .empty).openVehicle a := by
  simp only [State.axleArrival, h, hj, Bool.false_eq_true, if_false, State.closeAndOpen, State.closeVehicle_unrecorded h]

end

end

end Sys2Proof.Machine

namespace Sys2Proof.Machine

/-! ### The join test and an appended axle (R105, R114, R115) -/

theorem Progress.spacingTo_eq (p : Progress) (a : WeighedAxle) : p.spacingTo a =
    if (a.entry.time - p.lastTime).toNat < 2147483648 then
      min (((a.entry.time - p.lastTime).toNat * ((p.vLast + a.entry.speed) / 2) + 80000) / 160000) 65535
    else 65535 := by
  simp only [Progress.spacingTo, spacing, inReach_iff, elapsed]

theorem State.joins_iff {s : State} {p : Progress} {a : WeighedAxle} : s.joins p a = true ↔
    p.spacingTo a ≤ s.par.lane[a.lane].maxSp ∧
      (max a.entry.speed p.vLast - min a.entry.speed p.vLast) * 100 ≤ s.par.lane[a.lane].spdTol * p.vLast := by
  simp only [State.joins, Bool.and_eq_true, decide_eq_true_eq]

theorem Record.append_eq (r : Record) (a : WeighedAxle) (sp counter : Nat) : r.append a sp counter =
    { r with
      count := min (r.count + 1) 31
      axles := if r.axles.length < 12 then r.axles ++ [a.entry] else r.axles
      overflow := r.overflow || 12 ≤ r.axles.length
      spacings := if 1 ≤ r.axles.length ∧ r.axles.length < 12 then r.spacings ++ [sp] else r.spacings
      gross := if r.axles.length < 12 then r.gross + a.entry.load else r.gross
      lastTime := a.entry.time
      calChanged := r.calChanged || counter ≠ r.calCounter
      straddle := r.straddle <|> a.straddle } := by
  have hpos : (1 ≤ r.axles.length) ↔ r.axles.isEmpty = false := by
    cases r.axles <;> simp
  have hover : (!decide (r.axles.length < 12)) = decide (12 ≤ r.axles.length) := by
    rw [← decide_not, decide_eq_decide, Nat.not_lt]
  have hstraddle : (if r.straddle.isSome then r.straddle else a.straddle) = (r.straddle <|> a.straddle) := by
    cases r.straddle <;> rfl
  simp only [Record.append, hover, hstraddle, hpos, decide_eq_true_eq, Bool.and_eq_true, Bool.not_eq_true',
    and_comm (a := r.axles.isEmpty = false)]

/-! ### What the context says of an arrival -/

section
variable {s : State} {a : WeighedAxle}

/-- Linked, the lane closes at once when the close deadline has passed (R107, R108). -/
theorem State.linkOrClose_eq (number : Nat) : s.linkOrClose a number =
    if 0 < (s.siteTime - (s.progressAfter a).deadline).toNat ∧
        (s.siteTime - (s.progressAfter a).deadline).toNat < 2147483648 then afterClose s a.lane number
    else s.withContext a.lane (.linked number (s.progressAfter a)) := by
  simp only [State.linkOrClose, passed_iff]

theorem State.followOrDrop_eq : s.followOrDrop a = s.withContext a.lane
    (if 0 < (s.siteTime - (s.progressAfter a).deadline).toNat ∧
        (s.siteTime - (s.progressAfter a).deadline).toNat < 2147483648 then .empty
    else .unrecorded (s.progressAfter a)) := by
  simp only [State.followOrDrop, passed_iff]

theorem State.openVehicle_free (h : s.vrt.live.length < 40) : s.openVehicle a =
    (s.updVrt fun v => v.enter (s.firstRecord a s.vrt.nextFree)).linkOrClose a s.vrt.nextFree := by
  rw [State.openVehicle_acquired (State.acquire_free h), State.openRecord_eq a (Nat.le_of_lt h)]

/-- An opening by eviction is the opening that the eviction leaves a FREE entry for (R109, R110). -/
theorem State.axleArrival_evicts {r : Record} (hctx : s.vau.lane[a.lane].ctx = .empty) (hfull : s.vrt.live.length = 40)
    (hr : r ∈ s.vrt.live) (hevict : s.vrt.evictable = some r) : s.axleArrival a = (s.evict r).axleArrival a := by
  have hacquire : s.acquire = some (s.evict r) := by rw [State.acquire_full hfull.ge, hevict]; rfl
  have hroom : (s.evict r).vrt.live.length < 40 := by
    rw [State.evict_eq, ← hfull]
    exact List.length_filter_lt_length_iff_exists.2 ⟨r, hr, by simp⟩
  rw [State.axleArrival_empty hctx, State.axleArrival_empty ((s.evict_ctx r a.lane).trans hctx),
    State.openVehicle_acquired hacquire, State.openVehicle_acquired (State.acquire_free hroom)]

end

/-- Settles O42: the opening by whether an entry is to be had, the other arrivals by the context and the join test. -/
theorem axlesOpenJoinAndCloseVehicles : Obligations.AxlesOpenJoinAndCloseVehicles := by
  intro s a n e lane deadline late progress context linked unlinked gap joins holds
  have hprogress {t : State} (hpar : t.par = s.par) (hcst : t.cst = s.cst) : t.progressAfter a = progress := by
    simp only [State.progressAfter, State.deadline, hpar, hcst]
    rfl
  have hlinked {t : State} (number : Nat) (hpar : t.par = s.par) (hcst : t.cst = s.cst) (htime : t.siteTime = s.siteTime) :
      t.linkOrClose a number = linked t number := by
    rw [State.linkOrClose_eq, hprogress hpar hcst, htime]
    rfl
  have hunlinked {t : State} (hpar : t.par = s.par) (hcst : t.cst = s.cst) (htime : t.siteTime = s.siteTime) :
      t.followOrDrop a = unlinked t := by
    rw [State.followOrDrop_eq, hprogress hpar hcst, htime]
    rfl
  have hgap (p : Progress) : p.spacingTo a = gap p := p.spacingTo_eq a
  have hjoins (p : Progress) : s.joins p a = true ↔ joins p := by rw [State.joins_iff, hgap]
  have hparts (p : Progress) (h : ¬ joins p) : s.joins p a = false := Bool.eq_false_iff.2 (mt (hjoins p).1 h)
  refine ⟨fun hctx hroom => ⟨s.vrt.nextFree, Vrt.nextFree_allocated hroom.le, ?_⟩,
    fun xs ys r hctx hfull hr hone hcompleted hxs hheld => ?_, fun hctx hfull hall => ?_, fun number p hctx hj => ?_,
    fun number p hctx hj => ?_, fun p hctx hj => ?_, fun p hctx hj => ?_⟩
  · rw [State.axleArrival_empty hctx, State.openVehicle_free hroom, hlinked]
    all_goals rfl
  · rw [State.axleArrival_evicts hctx hfull hr (Vrt.evictable_first hr hone hcompleted hxs hheld), State.evict_eq]
    rfl
  · have hnone : s.acquire = none := by
      rw [State.acquire_full hfull, Vrt.evictable_none hall]
      rfl
    rw [State.axleArrival_empty hctx, State.openVehicle_unrecorded hnone, State.openUnrecorded, State.followAxle_eq,
      hunlinked]
    all_goals rfl
  · rw [State.axleArrival_joins hctx ((hjoins p).2 hj), State.appendAxle_eq, hlinked, hgap]
    · simp only [Record.append_eq]
      rfl
    all_goals rfl
  · rw [State.axleArrival_closes hctx (hparts p hj), State.axleArrival_empty]
    rw [afterClose_ctx, if_pos rfl]
  · rw [State.axleArrival_follows hctx ((hjoins p).2 hj), hunlinked]
    all_goals rfl
  · rw [State.axleArrival_drops hctx (hparts p hj), ← State.axleArrival_empty]
    · rfl
    · rw [State.withContext_ctx, if_pos rfl]

end Sys2Proof.Machine

/-! PROOFS. The record table and the lane contexts fit together: every step keeps them so (R103, R112, R114, R118, R123, R124,
R127, R128). -/

namespace Sys2Proof.Machine

/-! ### The record table apart from the lanes (R112, R123, R124, R127, R128) -/

/-- What `RecordsSound` says of the record table alone: the numbers are distinct, every record is sound, and the
completion-order list holds each COMPLETE record's number once. -/
structure Vrt.TableSound (v : Vrt) : Prop where
  size : v.live.length ≤ 40
  numbers : (v.live.map (·.number)).Nodup
  held : v.heldCount ≤ 38
  records : ∀ r ∈ v.live, r.sound
  counter : 1 ≤ v.counter ∧ v.counter ≤ 65535
  once : v.completed.Nodup
  completed : ∀ k, k ∈ v.completed ↔ ∃ r ∈ v.live, r.number = k ∧ r.state = .complete

/-- A lane has an OPEN record with this number. -/
def Vrt.opens (v : Vrt) (n : Lane) (k : Nat) : Prop := ∃ r ∈ v.live, r.number = k ∧ r.lane = n ∧ r.state = .opened

theorem Vrt.TableSound.eq_of_number {v : Vrt} (h : v.TableSound) {r q : Record} (hr : r ∈ v.live) (hq : q ∈ v.live)
    (hn : r.number = q.number) : r = q :=
  List.inj_on_of_nodup_map h.numbers hr hq hn

/-- The table is sound, a lane's context is linked exactly to the OPEN record of the lane, and the last speeds lie within the
site-wide limits. -/
theorem recordsSound_iff (s : State) : RecordsSound s ↔ s.vrt.TableSound ∧
    (∀ n : Lane, ∀ k, s.vau.lane[n].ctx.link = some k ↔ s.vrt.opens n k) ∧
    ∀ n : Lane, ∀ v, s.vau.lane[n].ctx.vLast? = some v → 556 ≤ v ∧ v ≤ 69444 := by
  constructor
  · rintro ⟨hsize, hnumbers, hheld, hrecords, hlow, hhigh, honce, hstate, hlisted, hopened, hlink, hspeed⟩
    refine ⟨⟨hsize, hnumbers, hheld, hrecords, ⟨hlow, hhigh⟩, honce, fun k => ⟨fun hk => ?_, ?_⟩⟩,
      fun n k => ⟨hlink n k, ?_⟩, hspeed⟩
    · obtain ⟨r, hr, rfl⟩ := List.mem_map.1 (hlisted k hk)
      exact ⟨r, hr, rfl, (hstate r hr).1 hk⟩
    · rintro ⟨r, hr, rfl, hst⟩
      exact (hstate r hr).2 hst
    · rintro ⟨r, hr, rfl, rfl, hst⟩
      exact hopened r hr hst
  · rintro ⟨ht, hlink, hspeed⟩
    obtain ⟨hlow, hhigh⟩ := ht.counter
    refine ⟨ht.size, ht.numbers, ht.held, ht.records, hlow, hhigh, ht.once, fun r hr => ⟨fun hk => ?_, fun hst => ?_⟩,
      fun k hk => ?_, fun r hr hst => ?_, fun n k => (hlink n k).1, hspeed⟩
    · obtain ⟨q, hq, hn, hst⟩ := (ht.completed _).1 hk
      rwa [← ht.eq_of_number hq hr hn]
    · exact (ht.completed _).2 ⟨r, hr, rfl, hst⟩
    · obtain ⟨q, hq, hn, -⟩ := (ht.completed k).1 hk
      exact List.mem_map.2 ⟨q, hq, hn⟩
    · exact (hlink _ _).2 ⟨r, hr, rfl, rfl, hst⟩

/-! ### A record leaves the table, a record enters it

Every change of the table is such a move, up to the order of the two lists: a changed record leaves and enters again. -/

/-- Two tables with the same records and the same completed numbers, in any order. -/
structure Vrt.Alike (v w : Vrt) : Prop where
  live : v.live.Perm w.live
  completed : v.completed.Perm w.completed

/-- The table with one record more. -/
def Vrt.plus (v : Vrt) (r : Record) : Vrt :=
  { v with
    live := r :: v.live
    completed := if r.state = .complete then r.number :: v.completed else v.completed }

theorem Vrt.TableSound.of_alike {v w : Vrt} (h : v.TableSound) (ha : w.Alike v) (hc : 1 ≤ w.counter ∧ w.counter ≤ 65535) :
    w.TableSound := by
  refine ⟨ha.live.length_eq ▸ h.size, (ha.live.map _).nodup_iff.2 h.numbers, ?_,
    fun r hr => h.records r (ha.live.mem_iff.1 hr), hc, ha.completed.nodup_iff.2 h.once, fun k => ?_⟩
  · rw [Vrt.heldCount, ha.live.countP_eq]
    exact h.held
  · simp only [ha.completed.mem_iff, ha.live.mem_iff, h.completed]

theorem Vrt.Alike.opens {v w : Vrt} (ha : v.Alike w) (n : Lane) (k : Nat) : v.opens n k ↔ w.opens n k := by
  simp only [Vrt.opens, ha.live.mem_iff]

theorem Vrt.TableSound.free {v : Vrt} (h : v.TableSound) (k : Nat) : (v.free k).TableSound := by
  have hsub : (v.free k).live.Sublist v.live := List.filter_sublist
  refine ⟨hsub.length_le.trans h.size, h.numbers.sublist (hsub.map _), hsub.countP_le.trans h.held,
    fun r hr => h.records r (hsub.subset hr), h.counter, h.once.filter _, fun j => ?_⟩
  simp only [Vrt.free, List.mem_filter, decide_eq_true_eq, h.completed]
  constructor
  · rintro ⟨⟨r, hr, rfl, hst⟩, hj⟩
    exact ⟨r, ⟨hr, hj⟩, rfl, hst⟩
  · rintro ⟨r, ⟨hr, hj⟩, rfl, hst⟩
    exact ⟨⟨r, hr, rfl, hst⟩, hj⟩

theorem Vrt.free_fresh (v : Vrt) (k : Nat) : k ∉ (v.free k).live.map (·.number) := by simp [Vrt.free]

theorem Vrt.opens_free (v : Vrt) (k : Nat) (n : Lane) (j : Nat) : (v.free k).opens n j ↔ v.opens n j ∧ j ≠ k := by
  simp only [Vrt.opens, Vrt.free, List.mem_filter, decide_eq_true_eq]
  constructor
  · rintro ⟨r, ⟨hr, hk⟩, rfl, hrest⟩
    exact ⟨⟨r, hr, rfl, hrest⟩, hk⟩
  · rintro ⟨⟨r, hr, rfl, hrest⟩, hk⟩
    exact ⟨r, ⟨hr, hk⟩, rfl, hrest⟩

theorem Vrt.heldCount_plus (v : Vrt) (r : Record) : (v.plus r).heldCount = v.heldCount + if r.held then 1 else 0 :=
  List.countP_cons

theorem Vrt.TableSound.plus {v : Vrt} (h : v.TableSound) {r : Record} (hroom : v.live.length < 40)
    (hfresh : r.number ∉ v.live.map (·.number)) (hheld : r.held = true → v.heldCount < 38) (hr : r.sound) :
    (v.plus r).TableSound := by
  have hnot : r.number ∉ v.completed := fun hc => by
    obtain ⟨q, hq, hn, -⟩ := (h.completed _).1 hc
    exact hfresh (List.mem_map.2 ⟨q, hq, hn⟩)
  refine ⟨hroom, List.nodup_cons.2 ⟨hfresh, h.numbers⟩, ?_, List.forall_mem_cons.2 ⟨hr, h.records⟩, h.counter, ?_,
    fun k => ?_⟩
  · rw [Vrt.heldCount_plus]
    split
    next hrh => exact hheld hrh
    next => exact h.held
  · simp only [Vrt.plus]
    split
    · exact List.nodup_cons.2 ⟨hnot, h.once⟩
    · exact h.once
  · simp only [Vrt.plus, List.mem_cons, exists_eq_or_imp, ← h.completed]
    split
    next hst => simp only [List.mem_cons, hst, and_true, eq_comm]
    next hst => simp only [hst, and_false, false_or]

theorem Vrt.opens_plus (v : Vrt) (r : Record) (n : Lane) (k : Nat) :
    (v.plus r).opens n k ↔ (r.number = k ∧ r.lane = n ∧ r.state = .opened) ∨ v.opens n k := by
  simp only [Vrt.opens, Vrt.plus, List.mem_cons, exists_eq_or_imp]

/-! ### A record of the table and the rest of it -/

/-- An element with a key of its own stands before the rest. -/
theorem perm_cons_filter_key {α κ : Type} [DecidableEq κ] (key : α → κ) {l : List α} (h : (l.map key).Nodup) {a : α}
    (ha : a ∈ l) : l.Perm (a :: l.filter fun b => key b ≠ key a) := by
  induction l with
  | nil => cases ha
  | cons x xs ih =>
    obtain ⟨hx, hxs⟩ := List.nodup_cons.1 h
    by_cases hkey : key x = key a
    · have hax : a = x := by
        rcases List.mem_cons.1 ha with rfl | hmem
        · rfl
        · exact absurd (List.mem_map_of_mem hmem) (hkey ▸ hx)
      subst hax
      have hrest : ∀ b ∈ xs, key b ≠ key a := fun b hb he => hx (he ▸ List.mem_map_of_mem hb)
      rw [List.filter_cons_of_neg (by simp), List.filter_eq_self.2 (by simpa using hrest)]
    · have hmem : a ∈ xs := (List.mem_cons.1 ha).resolve_left fun he => hkey (congrArg key he.symm)
      rw [List.filter_cons_of_pos (by simpa using hkey)]
      exact ((ih hxs hmem).cons x).trans (.swap a x _)

section
variable {v : Vrt} (h : v.TableSound) {r : Record} (hr : r ∈ v.live)
include h hr

theorem Vrt.TableSound.live_perm : v.live.Perm (r :: (v.free r.number).live) :=
  perm_cons_filter_key Record.number h.numbers hr

/-- The completed numbers with those of a record apart. -/
theorem Vrt.TableSound.completed_perm : v.completed.Perm
    (if r.state = .complete then r.number :: (v.free r.number).completed else (v.free r.number).completed) := by
  have hmem : r.number ∈ v.completed ↔ r.state = .complete := by
    rw [h.completed]
    exact ⟨fun ⟨q, hq, hn, hst⟩ => h.eq_of_number hq hr hn ▸ hst, fun hst => ⟨r, hr, rfl, hst⟩⟩
  split
  next hst => exact perm_cons_filter_key id (by simpa using h.once) (hmem.2 hst)
  next hst =>
    have hrest : ∀ k ∈ v.completed, k ≠ r.number := fun k hk he => hst (hmem.1 (he ▸ hk))
    have hfree : (v.free r.number).completed = v.completed := List.filter_eq_self.2 (by simpa using hrest)
    rw [hfree]

theorem Vrt.TableSound.alike_self : v.Alike ((v.free r.number).plus r) := ⟨h.live_perm hr, h.completed_perm hr⟩

theorem Vrt.TableSound.free_length : (v.free r.number).live.length + 1 = v.live.length := (h.live_perm hr).length_eq.symm

theorem Vrt.TableSound.heldCount_free : v.heldCount = (v.free r.number).heldCount + if r.held then 1 else 0 := by
  rw [← Vrt.heldCount_plus]
  exact (h.live_perm hr).countP_eq _

/-- A record in place of another one of the same number. -/
theorem Vrt.TableSound.replace {q : Record} (hn : q.number = r.number) (hq : q.sound)
    (hheld : q.held = true → r.held = true ∨ v.heldCount < 38) : ((v.free r.number).plus q).TableSound := by
  have hlen := h.free_length hr
  have hcount := h.heldCount_free hr
  have hsize := h.size
  have hmax := h.held
  refine (h.free r.number).plus (by omega) (hn ▸ v.free_fresh r.number) (fun hqh => ?_) hq
  rcases hheld hqh with hrh | hlt
  · rw [hrh, if_pos rfl] at hcount
    omega
  · omega

theorem Vrt.TableSound.update_live (f : Record → Record) :
    (v.update r.number f).live.Perm (f r :: (v.free r.number).live) := by
  have hrest : (v.free r.number).live.map (fun q => if q.number = r.number then f q else q) = (v.free r.number).live := by
    refine (List.map_congr_left fun q hq => if_neg ?_).trans (List.map_id _)
    simpa using (List.mem_filter.1 hq).2
  have := (h.live_perm hr).map fun q => if q.number = r.number then f q else q
  rwa [List.map_cons, if_pos rfl, hrest] at this

/-- A changed record that keeps its number and state leaves the table and enters it again. -/
theorem Vrt.TableSound.update_alike {f : Record → Record} (hn : (f r).number = r.number) (hst : (f r).state = r.state) :
    (v.update r.number f).Alike ((v.free r.number).plus (f r)) := by
  refine ⟨h.update_live hr f, ?_⟩
  simp only [Vrt.plus, hst, hn]
  exact h.completed_perm hr

end

end Sys2Proof.Machine

namespace Sys2Proof.Machine

/-! ### A record stays sound as it takes an axle and as it closes (R114, R115, R118) -/

theorem Record.append_sound {r : Record} (h : r.sound) (a : WeighedAxle) (sp counter : Nat) :
    (r.append a sp counter).sound := by
  obtain ⟨hlow, hhigh, haxles, hspacings, hgross, hover, hnum, hnum', hcert⟩ := h
  rw [Record.append_eq]
  have hlen : (if r.axles.length < 12 then r.axles ++ [a.entry] else r.axles).length = min (r.axles.length + 1) 12 := by
    split
    · rw [List.length_append, List.length_singleton]; omega
    · omega
  refine ⟨by simp only; omega, by simp only; omega, by rw [hlen]; simp only; omega, ?_, ?_, ?_, hnum, hnum', hcert⟩
  · rw [hlen]
    simp only
    split
    · rw [List.length_append, List.length_singleton]; omega
    · omega
  · simp only
    split
    · simp [hgross]
    · exact hgross
  · simp only [Bool.or_eq_true, decide_eq_true_eq, hover]
    omega

theorem State.firstRecord_sound (s : State) (a : WeighedAxle) {number : Nat} (h : 1 ≤ number ∧ number ≤ 65535) :
    (s.firstRecord a number).sound :=
  ⟨le_refl 1, show 1 ≤ 31 by decide, rfl, rfl, by simp [State.firstRecord], by simp [State.firstRecord], h.1, h.2, nofun⟩

theorem closed_sound (s : State) {r : Record} (h : r.sound) : (closed s r).sound := by
  obtain ⟨hlow, hhigh, haxles, hspacings, hgross, hover, hnum, hnum', -⟩ := h
  exact ⟨hlow, hhigh, haxles, hspacings, hgross, hover, hnum, hnum', fun _ => decide_eq_true_iff⟩

/-! ### Moves of the table under the contexts -/

/-- The table is the same, and so is every context. -/
structure SameRecords (s t : State) : Prop where
  vrt : t.vrt = s.vrt
  ctx : ∀ n : Lane, t.vau.lane[n].ctx = s.vau.lane[n].ctx

theorem SameRecords.of_eq {s t : State} (hvrt : t.vrt = s.vrt) (hvau : t.vau = s.vau) : SameRecords s t :=
  ⟨hvrt, fun _ => by rw [hvau]⟩

theorem SameRecords.refl (s : State) : SameRecords s s := ⟨rfl, fun _ => rfl⟩

theorem SameRecords.trans {s t u : State} (h : SameRecords s t) (k : SameRecords t u) : SameRecords s u :=
  ⟨k.vrt.trans h.vrt, fun n => (k.ctx n).trans (h.ctx n)⟩

section
variable {s t : State} (hs : RecordsSound s)
include hs

theorem RecordsSound.of_same (h : SameRecords s t) : RecordsSound t := by
  rw [recordsSound_iff] at hs ⊢
  simpa only [h.vrt, h.ctx] using hs

theorem RecordsSound.table : s.vrt.TableSound := ((recordsSound_iff s).1 hs).1

theorem RecordsSound.link_iff (n : Lane) (k : Nat) : s.vau.lane[n].ctx.link = some k ↔ s.vrt.opens n k :=
  ((recordsSound_iff s).1 hs).2.1 n k

theorem RecordsSound.vLast {n : Lane} {v : Nat} (h : s.vau.lane[n].ctx.vLast? = some v) : 556 ≤ v ∧ v ≤ 69444 :=
  ((recordsSound_iff s).1 hs).2.2 n v h

/-- A change of the table that opens and closes no record. -/
theorem RecordsSound.updVrt {f : Vrt → Vrt} (htable : (f s.vrt).TableSound)
    (hopens : ∀ n k, (f s.vrt).opens n k ↔ s.vrt.opens n k) : RecordsSound (s.updVrt f) :=
  (recordsSound_iff _).2 ⟨htable, fun n k => (hs.link_iff n k).trans (hopens n k).symm, fun _ _ => hs.vLast⟩

/-- A record that keeps its number, lane and state and stays sound. -/
theorem RecordsSound.updRecord {r : Record} (hr : r ∈ s.vrt.live) {f : Record → Record} (hn : (f r).number = r.number)
    (hl : (f r).lane = r.lane) (hst : (f r).state = r.state) (hsound : (f r).sound)
    (hheld : (f r).held = true → r.held = true ∨ s.vrt.heldCount < 38) : RecordsSound (s.updRecord r.number f) := by
  have halike := hs.table.update_alike hr hn hst
  refine hs.updVrt ((hs.table.replace hr hn hsound hheld).of_alike halike hs.table.counter) fun n k => ?_
  rw [halike.opens, (hs.table.alike_self hr).opens, Vrt.opens_plus, Vrt.opens_plus, hn, hl, hst]

/-- The OPEN record of a lane closes with its context (R106, R118). -/
theorem RecordsSound.afterClose {n : Lane} {k : Nat} (hlink : s.vau.lane[n].ctx.link = some k) :
    RecordsSound (afterClose s n k) := by
  obtain ⟨r, hr, rfl, rfl, hst⟩ := (hs.link_iff n k).1 hlink
  have hlive : (Machine.afterClose s r.lane r.number).vrt.live.Perm (closed s r :: (s.vrt.free r.number).live) :=
    hs.table.update_live hr _
  have hnot : r.number ∉ s.vrt.completed := fun hc => by
    obtain ⟨q, hq, hn, hq'⟩ := (hs.table.completed _).1 hc
    rw [hs.table.eq_of_number hq hr hn, hst] at hq'
    cases hq'
  have hcompleted : (Machine.afterClose s r.lane r.number).vrt.completed.Perm
      (r.number :: (s.vrt.free r.number).completed) := by
    have hfree := hs.table.completed_perm hr
    rw [hst, if_neg nofun] at hfree
    exact (List.perm_append_singleton _ _).trans (hfree.cons _)
  have halike : (Machine.afterClose s r.lane r.number).vrt.Alike ((s.vrt.free r.number).plus (closed s r)) :=
    ⟨hlive, hcompleted⟩
  rw [recordsSound_iff]
  have hclosed := hs.table.replace (q := closed s r) hr rfl (closed_sound s (hs.table.records r hr)) .inl
  refine ⟨hclosed.of_alike halike hs.table.counter, fun m j => ?_, fun m v hv => ?_⟩
  · rw [halike.opens, Vrt.opens_plus, Vrt.opens_free, ← hs.link_iff, afterClose_ctx]
    split
    next he =>
      subst he
      rw [hlink]
      simp [Context.link, closed, eq_comm]
    next he =>
      have hother : s.vau.lane[m].ctx.link = some j → j ≠ r.number := fun hj hjr => by
        obtain ⟨q, hq, hn, rfl, -⟩ := (hs.link_iff m j).1 hj
        exact he (congrArg Record.lane (hs.table.eq_of_number hr hq (hn.trans hjr).symm))
      simpa [closed] using hother
  · rw [afterClose_ctx] at hv
    split at hv
    · cases hv
    · exact hs.vLast hv

/-- A context with the link that it had. -/
theorem RecordsSound.withContext {n : Lane} {c : Context} (hlink : c.link = s.vau.lane[n].ctx.link)
    (hv : ∀ v, c.vLast? = some v → 556 ≤ v ∧ v ≤ 69444) : RecordsSound (s.withContext n c) := by
  rw [recordsSound_iff]
  refine ⟨hs.table, fun m k => ?_, fun m v hm => ?_⟩
  · rw [State.withContext_ctx]
    split
    next he => subst he; rw [hlink]; exact hs.link_iff n k
    next => exact hs.link_iff m k
  · rw [State.withContext_ctx] at hm
    split at hm
    · exact hv v hm
    · exact hs.vLast hm

/-- A new OPEN record of a lane, with the context linked to it. -/
theorem RecordsSound.enter {r : Record} {p : Progress} (hempty : s.vau.lane[r.lane].ctx.link = none)
    (hroom : s.vrt.live.length < 40) (hfresh : r.number ∉ s.vrt.live.map (·.number)) (hst : r.state = .opened)
    (hheld : r.held = false) (hr : r.sound) (hv : 556 ≤ p.vLast ∧ p.vLast ≤ 69444) :
    RecordsSound ((s.updVrt fun v => v.enter r).withContext r.lane (.linked r.number p)) := by
  have halike : (s.vrt.enter r).Alike (s.vrt.plus r) := by
    refine ⟨List.perm_append_singleton _ _, ?_⟩
    rw [Vrt.plus, hst]
    exact .refl _
  rw [recordsSound_iff]
  refine ⟨(hs.table.plus hroom hfresh (by simp [hheld]) hr).of_alike halike (nextNumber_bounds _), fun m k => ?_,
    fun m v hm => ?_⟩
  · rw [State.withContext_ctx]
    refine Iff.trans ?_ (halike.opens m k).symm
    rw [Vrt.opens_plus, ← hs.link_iff]
    split
    next he => subst he; rw [hempty]; simp [Context.link, hst]
    next he => simp [he]
  · rw [State.withContext_ctx] at hm
    split at hm
    · cases hm; exact hv
    · exact hs.vLast hm

/-! ### An axle arrives (R104 to R111) -/

theorem RecordsSound.closeVehicle (n : Lane) : RecordsSound (s.closeVehicle n) := by
  cases h : s.vau.lane[n].ctx with
  | empty => rwa [State.closeVehicle_empty h]
  | linked number p => rw [State.closeVehicle_linked h]; exact hs.afterClose (by rw [h, Context.link])
  | unrecorded p =>
    rw [State.closeVehicle_unrecorded h]
    exact hs.withContext (by rw [h]; rfl) nofun

/-- A COMPLETE record leaves the table. -/
theorem RecordsSound.free {r : Record} (hr : r ∈ s.vrt.live) (hst : r.state = .complete) :
    RecordsSound (s.updVrt fun v => v.free r.number) := by
  refine hs.updVrt (hs.table.free r.number) fun n k => ?_
  rw [Vrt.opens_free, and_iff_left_iff_imp]
  rintro ⟨q, hq, rfl, -, hq'⟩ hn
  rw [hs.table.eq_of_number hq hr hn, hst] at hq'
  cases hq'

theorem RecordsSound.evict {r : Record} (hr : r ∈ s.vrt.live) (hst : r.state = .complete) : RecordsSound (s.evict r) :=
  (hs.free hr hst).of_same ⟨by rw [State.evict_eq]; rfl, s.evict_ctx r⟩

/-- The record evicted is a COMPLETE one (R109). -/
theorem RecordsSound.evictable {r : Record} (h : s.vrt.evictable = some r) : r ∈ s.vrt.live ∧ r.state = .complete := by
  obtain ⟨k, hk, hfind⟩ := List.mem_filterMap.1 (List.mem_of_find?_eq_some h)
  obtain ⟨hlive, hnum⟩ := Vrt.find_some hfind
  obtain ⟨q, hq, hn, hst⟩ := (hs.table.completed k).1 hk
  exact ⟨hlive, hs.table.eq_of_number hq hlive (hn.trans hnum.symm) ▸ hst⟩

/-- With an entry to be had there is room for a record, and the contexts are as they were. -/
theorem RecordsSound.acquire (h : s.acquire = some t) :
    RecordsSound t ∧ t.vrt.live.length < 40 ∧ ∀ n : Lane, t.vau.lane[n].ctx = s.vau.lane[n].ctx := by
  by_cases hroom : s.vrt.live.length < 40
  · rw [State.acquire_free hroom] at h
    cases h
    exact ⟨hs, hroom, fun _ => rfl⟩
  · rw [State.acquire_full (Nat.not_lt.1 hroom)] at h
    obtain ⟨r, hevict, rfl⟩ := Option.map_eq_some_iff.1 h
    obtain ⟨hr, hst⟩ := hs.evictable hevict
    refine ⟨hs.evict hr hst, ?_, s.evict_ctx r⟩
    have hlen := hs.table.free_length hr
    have hsize := hs.table.size
    rw [State.evict_eq]
    show (s.vrt.free r.number).live.length < 40
    omega

variable {a : WeighedAxle} (hv : 556 ≤ a.entry.speed ∧ a.entry.speed ≤ 69444)
include hv

theorem RecordsSound.followOrDrop (h : s.vau.lane[a.lane].ctx.link = none) : RecordsSound (s.followOrDrop a) := by
  unfold State.followOrDrop
  split
  · exact hs.withContext h.symm nofun
  · exact hs.withContext h.symm fun v hv' => by cases hv'; exact hv

omit hs hv in
/-- A record linked to its lane may close at once. -/
theorem RecordsSound.linkOrClose {number : Nat}
    (h : RecordsSound (s.withContext a.lane (.linked number (s.progressAfter a)))) :
    RecordsSound (s.linkOrClose a number) := by
  unfold State.linkOrClose
  split
  · rw [← afterClose_withContext s a.lane (.linked number (s.progressAfter a))]
    exact h.afterClose (by rw [State.withContext_ctx, if_pos rfl]; rfl)
  · exact h

theorem RecordsSound.openVehicle (hempty : s.vau.lane[a.lane].ctx = .empty) : RecordsSound (s.openVehicle a) := by
  cases h : s.acquire with
  | some t =>
    obtain ⟨ht, hroom, hctx⟩ := hs.acquire h
    rw [State.openVehicle_acquired h, State.openRecord_eq a (Nat.le_of_lt hroom)]
    have hallocated := Vrt.nextFree_allocated (Nat.le_of_lt hroom)
    have hfirst := t.firstRecord_sound a (hallocated.bounds ht.table.counter)
    exact .linkOrClose (ht.enter (r := t.firstRecord a t.vrt.nextFree) (by rw [State.firstRecord, hctx, hempty]; rfl)
      hroom hallocated.fresh rfl rfl hfirst hv)
  | none =>
    rw [State.openVehicle_unrecorded h, State.openUnrecorded, State.followAxle_eq]
    have hcount : SameRecords s { s.updLane a.lane fun l => { l with unrecorded := bump l.unrecorded } with
        cpt := { s.cpt with unrecordedLatch := true } } :=
      ⟨rfl, fun m => by simp only [State.updLane_vau, upd_get]; split <;> rfl⟩
    exact (hs.of_same hcount).followOrDrop hv (by rw [hcount.ctx, hempty]; rfl)

theorem RecordsSound.axleArrival : RecordsSound (s.axleArrival a) := by
  cases hctx : s.vau.lane[a.lane].ctx with
  | empty => rw [State.axleArrival_empty hctx]; exact hs.openVehicle hv hctx
  | linked number p =>
    cases hj : s.joins p a with
    | false =>
      rw [State.axleArrival_closes hctx hj]
      exact (hs.afterClose (by rw [hctx, Context.link])).openVehicle hv (by rw [afterClose_ctx, if_pos rfl])
    | true =>
      have hlink : s.vau.lane[a.lane].ctx.link = some number := by rw [hctx, Context.link]
      rw [State.axleArrival_joins hctx hj, State.appendAxle_eq]
      obtain ⟨r, hr, rfl, -, -⟩ := (hs.link_iff _ _).1 hlink
      refine .linkOrClose (RecordsSound.withContext ?_ hlink.symm fun v hv' => by cases hv'; exact hv)
      exact hs.updRecord hr rfl rfl rfl (Record.append_sound (hs.table.records r hr) a _ _) .inl
  | unrecorded p =>
    cases hj : s.joins p a with
    | false =>
      rw [State.axleArrival_drops hctx hj]
      have hempty : RecordsSound (s.withContext a.lane .empty) := hs.withContext (by rw [hctx]; rfl) nofun
      exact hempty.openVehicle hv (by rw [State.withContext_ctx, if_pos rfl])
    | true => rw [State.axleArrival_follows hctx hj]; exact hs.followOrDrop hv (by rw [hctx]; rfl)

end

end Sys2Proof.Machine

namespace Sys2Proof.Machine

/-! ### The axle pairing unit leaves the records, apart from the axles that it hands over

`KeptByPairing` asks for every candidate, with whatever borrowed speed; the records stay sound only since the speed borrowed
is the last one of a context (R71), so the walk through chapter 4 is made again with that in view. -/

theorem State.missReport_sameRecords (s : State) (i : Strip) (ref : Time) : SameRecords s (s.missReport i ref) :=
  .of_eq (by simp) (by simp)

theorem State.contribution_sameRecords (s : State) (i : Strip) : SameRecords s (s.contribution i) :=
  .of_eq (by simp) (by simp)

theorem State.rowMisses_sameRecords (s : State) (n : Lane) (r : Row) (h : RowHit) (ref : Time) :
    SameRecords s (s.rowMisses n r h ref) := .of_eq (by simp) (by simp)

/-- Buffers, queues, orphan counts and the transit are no part of the records. -/
theorem State.apu_sameRecords (s : State) (a : Apu) : SameRecords s { s with apu := a } := .of_eq rfl rfl

/-- A two-row axle has a speed within the site-wide limits (R84). -/
theorem Candidate.ofMatch_speed (u d : RowHit) (spacing : Nat) :
    556 ≤ ((Candidate.ofMatch u d).speed spacing).1 ∧ ((Candidate.ofMatch u d).speed spacing).1 ≤ 69444 := by
  rw [Candidate.speed_of_delta rfl]
  omega

section
variable {s t : State} (hs : RecordsSound s)
include hs

theorem RecordsSound.apu (a : Apu) : RecordsSound { s with apu := a } := hs.of_same (s.apu_sameRecords a)

theorem RecordsSound.handOver {c : Candidate} (hv : 556 ≤ (c.speed s.cst.working.lane[c.lane].spacing).1 ∧
    (c.speed s.cst.working.lane[c.lane].spacing).1 ≤ 69444) : RecordsSound (s.handOver c) := hs.axleArrival hv

/-- A one-row axle has the last speed of its lane's context (R76, R77, R85). -/
theorem RecordsSound.handOver_borrowed {c : Candidate} {v : Nat} {n : Lane} (hctx : s.vau.lane[n].ctx.vLast? = some v)
    (hd : c.delta = none) (hb : c.borrowed = some v) : RecordsSound (s.handOver c) := by
  refine hs.handOver ?_
  rw [Candidate.speed_of_borrowed hd hb]
  exact hs.vLast hctx

theorem RecordsSound.upstreamOnly (n : Lane) (e : QueueEntry) : RecordsSound (s.upstreamOnly n e) := by
  have hm := hs.of_same (s.rowMisses_sameRecords n .down e.hit e.hit.time)
  simp only [State.upstreamOnly]
  split
  next hv => exact hm.handOver_borrowed hv rfl rfl
  next => exact hm.apu _

theorem RecordsSound.downstreamOnly (n : Lane) (d : RowHit) : RecordsSound (s.downstreamOnly n d) := by
  have hm := hs.of_same (s.rowMisses_sameRecords n .up d d.time)
  simp only [State.downstreamOnly]
  split
  next hv => exact hm.handOver_borrowed hv rfl rfl
  next => exact hm.apu _

theorem RecordsSound.routeHit (h : RowHit) : RecordsSound (s.routeHit h) := by
  unfold State.routeHit
  split
  · simp only [State.enterQueue]
    repeat' split
    · exact hs.upstreamOnly _ _
    · exact (hs.apu _).upstreamOnly _ _
    · exact hs.apu _
    · exact hs
  · simp only [State.matchDownstream]
    split
    · exact (foldl_keeps (fun _ _ hu => hu.upstreamOnly _ _) _ (hs.apu _)).handOver (Candidate.ofMatch_speed _ _ _)
    · exact hs.downstreamOnly _ _

theorem RecordsSound.pairHit (a b : PulseRecord) (h : RowHit) : RecordsSound (s.pairHit a b h) :=
  (hs.of_same ((s.contribution_sameRecords _).trans (State.contribution_sameRecords _ _))).routeHit h

theorem RecordsSound.halfHit (r : PulseRecord) : RecordsSound (s.halfHit r) := by
  have hc := s.contribution_sameRecords r.strip
  simp only [State.halfHit]
  split
  · exact (hs.of_same (hc.trans (State.missReport_sameRecords _ _ _))).routeHit _
  · exact (hs.of_same hc).routeHit _

theorem RecordsSound.resolveLone (r : PulseRecord) : RecordsSound (s.resolveLone r) := by
  simp only [State.resolveLone]
  split
  · exact hs.halfHit r
  · split
    · split
      · exact (hs.apu _).pairHit _ _ _
      · exact hs.halfHit r
    · exact hs.halfHit r

theorem RecordsSound.pulseArrives (r : PulseRecord) : RecordsSound (s.pulseArrives r) := by
  simp only [State.pulseArrives]
  split
  · exact (hs.apu _).pairHit _ _ _
  · simp only [State.waitSide]
    split
    · split
      · exact (hs.apu _).resolveLone _
      · exact hs.apu _
    · exact hs

theorem RecordsSound.pulseArrival {i : Strip} (h : execPulseArrival i s = .next t) : RecordsSound t := by
  cases h
  split
  · exact (hs.apu _).pulseArrives _
  · exact hs

theorem RecordsSound.loneExpiry {i : Strip} {k : Fin 4} (h : execLoneExpiry i k s = .next t) : RecordsSound t := by
  cases h
  repeat' split
  · exact (hs.apu _).resolveLone _
  · exact hs
  · exact hs

theorem RecordsSound.entryExpiry {n : Lane} {k : Fin 4} (h : execEntryExpiry n k s = .next t) : RecordsSound t := by
  cases h
  repeat' split
  · exact (hs.apu _).upstreamOnly _ _
  · exact hs
  · exact hs

theorem RecordsSound.closeDeadlineExpiry {n : Lane} (h : execCloseDeadlineExpiry n s = .next t) : RecordsSound t := by
  cases h
  split
  · exact hs.closeVehicle n
  · exact hs

end

end Sys2Proof.Machine

namespace Sys2Proof.Machine

/-! ### Records that the host merges and splits stay sound (R141, R143, R146) -/

/-- What a merge or a split keeps of `Record.sound`: the figures come out of the listed axles, and HOST_EDITED leaves the
record uncertified (R100, R141). -/
theorem Record.refigured_sound {r : Record} {grp : Nat} {c : Cls} {reasons : CodeSet} (hlow : 1 ≤ r.axles.length)
    (hhigh : r.axles.length ≤ 12) (hspacings : r.spacings.length = r.axles.length - 1) (hover : r.overflow = false)
    (hnum : 1 ≤ r.number ∧ r.number ≤ 65535) :
    ({ r.refigured grp c with reasons := reasons ||| codeHostEdited, certified := false } : Record).sound := by
  have hedited : reasons ||| codeHostEdited ≠ 0 := fun h => absurd (BitVec.or_eq_zero_iff.1 h).2 (by decide)
  refine ⟨hlow, le_trans hhigh (by decide), (Nat.min_eq_left hhigh).symm, hspacings, rfl, ?_, hnum.1, hnum.2,
    fun _ => ⟨nofun, fun h => absurd h hedited⟩⟩
  refine iff_of_false (fun h => ?_) (Nat.not_lt.2 hhigh)
  exact absurd (hover.symm.trans h) nofun

theorem Record.merge_sound {a b : Record} (ha : a.sound) (hb : b.sound) (hao : a.overflow = false)
    (hlen : a.axles.length + b.axles.length ≤ 12) (grp : Nat) (c : Cls) : (a.merge b grp c).sound := by
  obtain ⟨hca, -, hla, hsa, -, -, hnum, hnum', -⟩ := ha
  obtain ⟨hcb, -, hlb, hsb, -, -, -, -, -⟩ := hb
  refine Record.refigured_sound ?_ ?_ ?_ hao ⟨hnum, hnum'⟩
  all_goals simp only [List.length_append, List.length_cons]; omega

theorem Record.part_sound {r : Record} {axles : List AxleEntry} {spacings : List Nat} (hlow : 1 ≤ axles.length)
    (hhigh : axles.length ≤ 12) (hspacings : spacings.length = axles.length - 1) (hnum : 1 ≤ r.number ∧ r.number ≤ 65535)
    (grp : Nat) (c : Cls) : (r.part axles spacings grp c).sound :=
  Record.refigured_sound hlow hhigh hspacings rfl hnum

section
variable {a : Record} (ha : a.sound) {k : Nat} (hk : 1 ≤ k) (hlt : k < a.axles.length) (grp : Nat) (c : Cls)
include ha hk hlt

theorem Record.splitHead_sound : (a.splitHead k grp c).sound := by
  obtain ⟨-, -, hlen, hsp, -, -, hnum, hnum', -⟩ := ha
  refine Record.part_sound ?_ ?_ ?_ ⟨hnum, hnum'⟩ grp c
  all_goals simp only [List.length_take]; omega

theorem Record.splitTail_sound {number : Nat} (hn : 1 ≤ number ∧ number ≤ 65535) : (a.splitTail k number grp c).sound := by
  obtain ⟨-, -, hlen, hsp, -, -, -, -, -⟩ := ha
  refine Record.part_sound ?_ ?_ ?_ hn grp c
  all_goals simp only [List.length_drop]; omega

end

/-! ### The tables after a merge and after a split (R144, R146) -/

section
variable {v : Vrt} (h : v.TableSound) {a b : Record} (ha : a ∈ v.live) (hsa : a.state = .complete)
include h ha hsa

omit hsa in
/-- The first record leaves the table, so does the second, and the merged record enters it. -/
theorem Vrt.TableSound.joined_alike (hb : b ∈ v.live) (hsb : b.state = .complete) (hne : a.number ≠ b.number) {m : Record}
    (hn : m.number = a.number) (hst : m.state = .complete) :
    (v.joined a.number b.number m).Alike (((v.free b.number).free a.number).plus m) := by
  constructor
  · have hlive := (h.update_live ha fun _ => m).filter fun r => r.number ≠ b.number
    rw [List.filter_cons_of_pos (by simpa [hn] using hne)] at hlive
    refine hlive.trans (.of_eq (congrArg (m :: ·) ?_))
    exact List.filter_comm _ _ _
  · have hother : ∀ k ∈ (v.free b.number).completed.filter fun k => k ≠ a.number, k ≠ b.number := fun k hk =>
      of_decide_eq_true (List.mem_filter.1 (List.mem_filter.1 hk).1).2
    have hperm := h.completed_perm hb
    rw [if_pos hsb] at hperm
    have hjoined := (hperm.filter fun k => k ≠ a.number).map fun k => if k = b.number then a.number else k
    have hrest : ((v.free b.number).completed.filter fun k => k ≠ a.number).map
        (fun k => if k = b.number then a.number else k) = (v.free b.number).completed.filter fun k => k ≠ a.number :=
      (List.map_congr_left fun k hk => if_neg (hother k hk)).trans (List.map_id _)
    rw [List.filter_cons_of_pos (by simpa using hne.symm), List.map_cons, if_pos rfl, hrest] at hjoined
    simp only [Vrt.plus, hst, if_true, hn]
    exact hjoined

/-- The record leaves the table, and both parts enter it. -/
theorem Vrt.TableSound.divided_alike {head tail : Record} (hn : head.number = a.number) (hh : head.state = .complete)
    (ht : tail.state = .complete) :
    (v.divided a.number head tail).Alike (((v.free a.number).plus head).plus tail) := by
  constructor
  · have hrest : (v.free a.number).live.flatMap (fun r => if r.number = a.number then [head, tail] else [r]) =
        (v.free a.number).live := by
      refine (List.flatMap_congr fun r hr => if_neg ?_).trans (List.flatMap_singleton' _)
      simpa using (List.mem_filter.1 hr).2
    have hlive := (h.live_perm ha).flatMap_right fun r => if r.number = a.number then [head, tail] else [r]
    rw [List.flatMap_cons, if_pos rfl, hrest] at hlive
    exact hlive.trans (.swap tail head _)
  · have hrest : (v.free a.number).completed.flatMap (fun k => if k = a.number then [a.number, tail.number] else [k]) =
        (v.free a.number).completed := by
      refine (List.flatMap_congr fun k hk => if_neg ?_).trans (List.flatMap_singleton' _)
      simpa using (List.mem_filter.1 hk).2
    have hperm := h.completed_perm ha
    rw [if_pos hsa] at hperm
    have hcompleted := hperm.flatMap_right fun k => if k = a.number then [a.number, tail.number] else [k]
    rw [List.flatMap_cons, if_pos rfl, hrest] at hcompleted
    simp only [Vrt.plus, hh, ht, if_true, hn]
    exact hcompleted.trans (.swap tail.number a.number _)

/-- A COMPLETE record opens no lane. -/
theorem Vrt.TableSound.opens_free_complete (n : Lane) (k : Nat) : (v.free a.number).opens n k ↔ v.opens n k := by
  rw [(h.alike_self ha).opens, Vrt.opens_plus, hsa]
  simp

end

/-! ### The record commands (chapter 7) -/

/-- A command on one record keeps what its rule keeps on every live record. -/
theorem recordCommand_live {I : State → Prop} {s : State} {n : Nat} {p : List Byte} {run : Record → Reply × State} (hs : I s)
    (hrun : ∀ r ∈ s.vrt.live, I (run r).2) : I (recordCommand n p s run).2 := by
  obtain e | e | ⟨r, -, hfind, e⟩ := recordCommand_cases n p s run
  · rw [e]; exact hs
  · rw [e]; exact hs
  · rw [e]; exact hrun r (Vrt.find_some hfind).1

/-- The state check lets a rule run on records of its state only. -/
theorem inState_of_state {I : State → Prop} {s : State} {r : Record} {st : RecState} {run : Reply × State} (hs : I s)
    (hrun : r.state = st → I run.2) : I (inState r st s run).2 := by
  unfold inState
  split
  next h => exact hrun h
  next => exact hs

section
variable {s : State} (hs : RecordsSound s) (p : List Byte)
include hs

theorem RecordsSound.acceptMark {n : Nat} : RecordsSound (acceptMark n s).2 := by rwa [acceptMark_state]

/-- A record whose held mark, unread mark or tag changes (R125, R135 to R137). -/
theorem RecordsSound.mark {r : Record} (hr : r ∈ s.vrt.live) {f : Record → Record}
    (hf : f r = { r with held := (f r).held, unread := (f r).unread, tag := (f r).tag })
    (hheld : (f r).held = true → r.held = true ∨ s.vrt.heldCount < 38) : RecordsSound (s.updRecord r.number f) := by
  have hsound : (f r).sound := by rw [hf]; exact hs.table.records r hr
  exact hs.updRecord hr (by rw [hf]) (by rw [hf]) (by rw [hf]) hsound hheld

theorem RecordsSound.recHead : RecordsSound (recHead p s).2 := by
  refine recordCommand_live hs fun r hr => hs.mark hr ?_ ?_
  · split <;> rfl
  · split <;> exact .inl

theorem RecordsSound.recHold : RecordsSound (recHold p s).2 := by
  refine recordCommand_live hs fun r hr => ?_
  split
  next => exact hs.acceptMark
  next =>
    split
    next hlt => exact (hs.mark hr rfl fun _ => .inr hlt).acceptMark
    next => exact hs

theorem RecordsSound.recRelease : RecordsSound (recRelease p s).2 :=
  recordCommand_live hs fun _ hr => (hs.mark hr rfl fun h => absurd h Bool.false_ne_true).acceptMark

theorem RecordsSound.recTag : RecordsSound (recTag p s).2 := by
  unfold Machine.recTag
  split
  · exact hs
  · exact recordCommand_live hs fun _ hr => (hs.mark hr rfl .inl).acceptMark

theorem RecordsSound.recClose : RecordsSound (recClose p s).2 := by
  refine recordCommand_live hs fun r hr => inState_of_state hs fun hst => ?_
  have hclosed := hs.afterClose ((hs.link_iff r.lane r.number).2 ⟨r, hr, rfl, rfl, hst⟩)
  simp only [State.closeRecord_eq]
  split
  · exact hclosed
  · exact hs

theorem RecordsSound.recRetire : RecordsSound (recRetire p s).2 :=
  recordCommand_live hs fun _ hr => inState_of_state hs fun hst => hs.free hr hst

theorem RecordsSound.recReclass : RecordsSound (recReclass p s).2 :=
  recordCommand_live hs fun r hr => inState_of_state hs fun _ =>
    hs.updRecord (f := fun _ => r.classed s.cls) hr rfl rfl rfl (hs.table.records r hr) .inl

theorem RecordsSound.joined {a b : Record} (ha : a ∈ s.vrt.live) (hb : b ∈ s.vrt.live) (hsa : a.state = .complete)
    (hsb : b.state = .complete) (hne : a.number ≠ b.number) (hao : a.overflow = false)
    (hlen : a.axles.length + b.axles.length ≤ 12) :
    RecordsSound (s.updVrt fun v => v.joined a.number b.number (a.merge b s.par.grp s.cls)) := by
  have halike := hs.table.joined_alike ha hb hsb hne (m := a.merge b s.par.grp s.cls) rfl hsa
  have hfree := hs.table.free b.number
  have ha' : a ∈ (s.vrt.free b.number).live := List.mem_filter.2 ⟨ha, decide_eq_true hne⟩
  have hsound := Record.merge_sound (hs.table.records a ha) (hs.table.records b hb) hao hlen s.par.grp s.cls
  have hheld : (a.merge b s.par.grp s.cls).held = true → a.held = true ∨ (s.vrt.free b.number).heldCount < 38 := by
    intro h
    refine (Bool.or_eq_true_iff.1 h).imp_right fun hbh => ?_
    have hcount := hs.table.heldCount_free hb
    have hmax := hs.table.held
    rw [hbh, if_pos rfl] at hcount
    omega
  refine hs.updVrt ((hfree.replace ha' (q := a.merge b s.par.grp s.cls) rfl hsound hheld).of_alike halike hs.table.counter)
    fun n k => ?_
  rw [halike.opens, Vrt.opens_plus, hfree.opens_free_complete ha' hsa, hs.table.opens_free_complete hb hsb,
    show (a.merge b s.par.grp s.cls).state = .complete from hsa]
  simp

theorem RecordsSound.recMerge : RecordsSound (recMerge p s).2 := by
  simp only [Machine.recMerge]
  split
  next => exact hs
  next hp =>
    split
    next a b hfa hfb =>
      obtain ⟨ha, hna⟩ := Vrt.find_some hfa
      obtain ⟨hb, hnb⟩ := Vrt.find_some hfb
      repeat' split
      · exact hs
      · exact hs
      · exact hs
      next hst _ hover =>
        push Not at hp hst hover
        obtain ⟨-, hne⟩ := hp
        obtain ⟨hsa, hsb⟩ := hst
        obtain ⟨hao, -, hlen⟩ := hover
        exact hs.joined ha hb hsa hsb (by rwa [hna, hnb]) (Bool.eq_false_iff.2 hao) hlen
    next => exact hs

theorem RecordsSound.divided {a : Record} (ha : a ∈ s.vrt.live) (hsa : a.state = .complete) {k : Nat} (hk : 1 ≤ k)
    (hlt : k < a.axles.length) (hroom : s.vrt.live.length < 40) :
    RecordsSound (s.updVrt fun v => v.divided a.number (a.splitHead k s.par.grp s.cls)
      (a.splitTail k s.vrt.nextFree s.par.grp s.cls)) := by
  have hallocated := Vrt.nextFree_allocated hroom.le
  have halike := hs.table.divided_alike ha hsa (head := a.splitHead k s.par.grp s.cls)
    (tail := a.splitTail k s.vrt.nextFree s.par.grp s.cls) rfl hsa hsa
  have hhead := hs.table.replace ha (q := a.splitHead k s.par.grp s.cls) rfl
    (Record.splitHead_sound (hs.table.records a ha) hk hlt _ _) .inl
  have hfresh : s.vrt.nextFree ∉ ((s.vrt.free a.number).plus (a.splitHead k s.par.grp s.cls)).live.map (·.number) :=
    ((hs.table.live_perm ha).map (·.number)).mem_iff.not.1 hallocated.fresh
  have htail := Record.splitTail_sound (hs.table.records a ha) hk hlt s.par.grp s.cls (hallocated.bounds hs.table.counter)
  have hboth := hhead.plus ((hs.table.free_length ha).trans_lt hroom) hfresh (absurd · Bool.false_ne_true) htail
  refine hs.updVrt (hboth.of_alike halike (nextNumber_bounds _)) fun n j => ?_
  rw [halike.opens, Vrt.opens_plus, Vrt.opens_plus, hs.table.opens_free_complete ha hsa,
    show (a.splitHead k s.par.grp s.cls).state = .complete from hsa,
    show (a.splitTail k s.vrt.nextFree s.par.grp s.cls).state = .complete from hsa]
  simp

theorem RecordsSound.recSplit : RecordsSound (recSplit p s).2 := by
  simp only [Machine.recSplit]
  split
  next => exact hs
  next =>
    refine recordCommand_live hs fun a ha => inState_of_state hs fun hst => ?_
    split
    next => exact hs
    next hk =>
      split
      next => exact hs
      next hroom =>
        push Not at hk hroom
        obtain ⟨hpos, hlt, -⟩ := hk
        exact hs.divided ha hst (Nat.one_le_iff_ne_zero.2 hpos) hlt hroom

end

end Sys2Proof.Machine

namespace Sys2Proof.Machine

/-! ### What leaves the records and the contexts as they are -/

theorem recordsSound_portFree : PortFree RecordsSound := fun _ _ => Iff.rfl

theorem foldl_sameRecords {α : Type} {f : State → α → State} (hf : ∀ s a, SameRecords s (f s a)) (l : List α) (s : State) :
    SameRecords s (l.foldl f s) :=
  foldl_keeps (I := SameRecords s) (fun _ a h => h.trans (hf _ a)) l (.refl s)

theorem State.windowChange_sameRecords (s : State) (i : Strip) : SameRecords s (s.windowChange i) :=
  .of_eq (by simp) (by simp)

theorem paramApplier_sameRecords (p : Param) (k : Nat) (v : Int) {s t : State} (h : paramApplier p k v s = some t) :
    SameRecords s t := by
  by_cases ha : p = .azl
  · subst ha
    simp only [paramApplier, applyAzl] at h
    split at h
    · cases h; exact .refl s
    · rw [← Option.some.inj h]
      exact SameRecords.trans (t := s.updPar fun p => { p with azl := clampNat 0 4095 v }) (.of_eq rfl rfl)
        (foldl_sameRecords State.windowChange_sameRecords _ _)
  by_cases he : p = .enable
  · subst he
    simp only [paramApplier, applyEnable] at h
    repeat' split at h
    all_goals cases h
    · exact .refl s
    · exact .of_eq (by simp) (by simp)
    · exact .of_eq (by simp) (by simp)
  · obtain ⟨hrest, -⟩ := paramApplier_frame ha he h
    rw [hrest]
    exact .of_eq rfl rfl

/-! The samples, the timers, the converter's schedule, the store and the load. -/

section
variable {s t : State}

/-- An event that is not due leaves the state as it is (log 1). -/
theorem SameRecords.of_due {u : State} {due : Prop} [Decidable due]
    (h : (.next (if due then u else s) : Host.Outcome State Fault Refusal) = .next t) (hu : SameRecords s u) :
    SameRecords s t := by
  cases h
  split
  · exact hu
  · exact .refl s

theorem autoZeroStep_sameRecords {i : Strip} (h : execAutoZeroStep i s = .next t) : SameRecords s t := by
  refine .of_due h ?_
  simp only
  split
  · exact .of_eq (by simp) (by simp)
  · exact .of_eq rfl rfl

theorem periodicTimer_sameRecords {i : Strip} (h : execPeriodicTimerExpiry i s = .next t) : SameRecords s t := by
  refine .of_due h ?_
  simp only
  split
  · exact .of_eq rfl rfl
  · exact .of_eq rfl rfl

theorem storeCompletion_sameRecords {bytes : List Byte} (h : execStoreCompletion bytes s = .next t) : SameRecords s t := by
  refine .of_due h ?_
  split
  · rw [State.storeSuccess_eq]
    refine SameRecords.trans (t := s.storeMoves bytes) ?_ (.of_eq rfl rfl)
    exact SameRecords.trans (t := s.updCst fun k => k.storedWith bytes) (.of_eq rfl rfl)
      (foldl_sameRecords State.windowChange_sameRecords _ _)
  · exact .of_eq rfl rfl

theorem calswInputChange_sameRecords {closed : Bool} (h : execCalswInputChange closed s = .next t) : SameRecords s t := by
  cases h
  split
  · exact .refl s
  · exact .of_eq rfl rfl

theorem loadCompletion_sameRecords (h : execLoadCompletion s = .next t) : SameRecords s t := by
  by_cases hl : s.loaded = true
  · simp only [execLoadCompletion, if_pos hl] at h
    cases h
    exact .refl s
  · rw [execLoadCompletion_eq (Bool.eq_false_iff.2 hl), State.foldl_startStrip] at h
    cases h
    exact .of_eq (by simp [State.startStrips, State.loadTaken]) (by simp [State.startStrips, State.loadTaken])

theorem unknownCmd_sameRecords {bytes : List Byte} (h : execUnknownCmd bytes s = .next t) : SameRecords s t := by
  simp only [execUnknownCmd, State.badFrame] at h
  repeat' split at h
  all_goals cases h
  all_goals exact .of_eq rfl rfl

theorem nopRepeat_sameRecords {x : Xfer} (h : execNopRepeat x s = .next t) : SameRecords s t := by
  cases h
  split
  all_goals exact .of_eq rfl rfl

end

/-! The host's commands that name no record. -/

section
variable (p : List Byte) (s : State)

theorem status_sameRecords : SameRecords s (status p s).2 := whenEmpty_keeps (.refl s) (.of_eq rfl rfl)

theorem paramRead_sameRecords : SameRecords s (paramRead p s).2 := by
  unfold paramRead
  repeat' split
  all_goals exact .refl s

theorem counterRead_sameRecords : SameRecords s (counterRead p s).2 := by
  unfold counterRead
  repeat' split
  · exact .of_eq rfl rfl
  next n _ =>
    refine ⟨rfl, fun m => ?_⟩
    simp only [accept, State.clearLaneCounters, State.updLane_vau, upd_get]
    split <;> rfl
  · exact .refl s
  · exact .refl s

theorem recList_sameRecords : SameRecords s (recList p s).2 := by
  unfold recList
  repeat' split
  all_goals exact .refl s

theorem recAxles_sameRecords : SameRecords s (recAxles p s).2 := by
  simp only [recAxles]
  split
  · exact .refl s
  · refine recordCommand_keeps (.refl s) fun r => ?_
    split
    · exact .refl s
    · exact .refl s

theorem classWrite_sameRecords : SameRecords s (classWrite p s).2 := by
  unfold classWrite
  repeat' split
  · exact .of_eq rfl rfl
  · exact .refl s
  · exact .refl s

theorem classRead_sameRecords : SameRecords s (classRead p s).2 := by
  unfold classRead
  repeat' split
  all_goals exact .refl s

theorem stripRemove_sameRecords : SameRecords s (stripRemove p s).2 := by
  refine stripCommand_keeps (.refl s) fun i => ?_
  split
  · exact .refl s
  · exact .refl s
  · exact .of_eq rfl rfl

theorem stripRestore_sameRecords : SameRecords s (stripRestore p s).2 := by
  refine stripCommand_keeps (.refl s) fun i => ?_
  repeat' split
  · exact .refl s
  · exact .refl s
  · exact .of_eq rfl rfl

theorem stripTest_sameRecords : SameRecords s (stripTest p s).2 := by
  refine stripCommand_keeps (.refl s) fun i => ?_
  split
  · exact .of_eq rfl rfl
  · exact .of_eq rfl rfl
  · exact .refl s

theorem stripStatus_sameRecords : SameRecords s (stripStatus p s).2 :=
  stripCommand_keeps (.refl s) fun _ => .of_eq rfl rfl

theorem calWrite_sameRecords : SameRecords s (calWrite p s).2 := by
  refine whenUnlocked_keeps (.refl s) ?_
  split
  · exact .refl s
  · split
    · split
      · exact .of_eq rfl rfl
      · exact .refl s
    · simp only
      split
      · exact .of_eq rfl rfl
      · exact .refl s
    · exact .refl s

theorem calLoad_sameRecords : SameRecords s (calLoad p s).2 :=
  whenUnlocked_keeps (.refl s) (whenEmpty_keeps (.refl s) (.of_eq rfl rfl))

theorem calRead_sameRecords : SameRecords s (calRead p s).2 := by
  unfold calRead
  repeat' split
  all_goals exact .refl s

theorem calCommit_sameRecords : SameRecords s (calCommit p s).2 := by
  refine whenUnlocked_keeps (.refl s) ?_
  repeat' split
  · exact .refl s
  · exact .refl s
  · exact .of_eq rfl rfl

theorem trimSet_sameRecords : SameRecords s (trimSet p s).2 := by
  refine whenUnlocked_keeps (.refl s) ?_
  repeat' split
  · exact .refl s
  · exact .of_eq rfl rfl
  · exact .refl s

theorem trimStep_sameRecords : SameRecords s (trimStep p s).2 := by
  refine whenUnlocked_keeps (.refl s) ?_
  repeat' split
  · exact .refl s
  · exact .of_eq rfl rfl
  · exact .refl s
  · exact .refl s

end

/-! ### Resets (R211, R212) -/

/-- An empty table with every context EMPTY. -/
theorem RecordsSound.of_empty {s : State} (hlive : s.vrt.live = []) (hcompleted : s.vrt.completed = [])
    (hcounter : 1 ≤ s.vrt.counter ∧ s.vrt.counter ≤ 65535) (hctx : ∀ n : Lane, s.vau.lane[n].ctx = .empty) :
    RecordsSound s := by
  rw [recordsSound_iff]
  refine ⟨⟨by simp [hlive], by simp [hlive], by simp [Vrt.heldCount, hlive], by simp [hlive], hcounter, by simp [hcompleted],
    by simp [hlive, hcompleted]⟩, fun n k => ?_, fun n v hv => ?_⟩
  · rw [hctx]
    simp [Context.link, Vrt.opens, hlive]
  · rw [hctx] at hv
    cases hv

theorem RecordsSound.atReset (node : BitVec 2) (nv : Nonvolatile) (calsw : Bool) (pending : List Instr) :
    RecordsSound (State.atReset node nv calsw pending) :=
  .of_empty rfl rfl (by simp [State.atReset, Vrt.reset]) fun n => by simp [State.atReset, Vau.reset]

theorem RecordsSound.trafficReset {s : State} (hs : RecordsSound s) : RecordsSound s.trafficReset := by
  refine .of_empty rfl rfl ?_ fun n => ?_
  · simpa [State.trafficReset, Vrt.trafficReset] using hs.table.counter
  · simp [State.trafficReset, Vau.trafficReset]

/-! ### Every step keeps the records sound -/

/-- Every command keeps the records sound. -/
theorem RecordsSound.exec {s t : State} {c : Instr} (hs : RecordsSound s) (h : exec c s = .next t) : RecordsSound t := by
  have param (q : Param) {x : Xfer} {rest : List Byte} (h : paramCommand q (paramApplier q) x rest s = .next t) :
      RecordsSound t :=
    paramCommand_keeps recordsSound_portFree (fun k v _ _ hu ha => hu.of_same (paramApplier_sameRecords q k v ha)) hs h
  have host {code : Byte} {mb : Bool} {x : Xfer} {p : List Byte} {run : State → Reply × State}
      (h : (.next (hostCommand code mb x p run s) : Host.Outcome State Fault Refusal) = .next t)
      (hrun : ∀ u, RecordsSound u → RecordsSound (run u).2) : RecordsSound t := by
    cases h
    exact hostCommand_keeps recordsSound_portFree hrun hs
  cases c with
  | sample i code => exact hs.of_same (.of_due h (.of_eq (by simp) (by simp)))
  | normalEnd i code | longCut i code | standingEnd i code | settlingEnd i code =>
    cases h
    exact hs.of_same (.of_eq (by simp) (by simp))
  | autoZeroStep i => exact hs.of_same (autoZeroStep_sameRecords h)
  | pinnedTimerExpiry i => exact hs.of_same (.of_due h (.of_eq (by simp) (by simp)))
  | standingTimerExpiry i => exact hs.of_same (.of_due h (.of_eq (by simp) (by simp)))
  | noiseWindowEnd i => exact hs.of_same (.of_due h (.of_eq (by simp) (by simp)))
  | pulseArrival i => exact hs.pulseArrival h
  | loneExpiry i k => exact hs.loneExpiry h
  | entryExpiry n k => exact hs.entryExpiry h
  | closeDeadlineExpiry n => exact hs.closeDeadlineExpiry h
  | slotBoundary code => exact hs.of_same (.of_due h (.of_eq (by simp) (by simp)))
  | periodicTimerExpiry i => exact hs.of_same (periodicTimer_sameRecords h)
  | holdTimerExpiry n => exact hs.of_same (.of_due h (.of_eq rfl rfl))
  | holdoffExpiry i => exact hs.of_same (.of_due h (.of_eq rfl rfl))
  | storeCompletion bytes => exact hs.of_same (storeCompletion_sameRecords h)
  | switchPositionTaken => exact hs.of_same (.of_due h (.of_eq rfl rfl))
  | deviceReset straps cut => cases h; exact .atReset _ _ _ _
  | loadCompletion => exact hs.of_same (loadCompletion_sameRecords h)
  | unknownCmd bytes => exact hs.of_same (unknownCmd_sameRecords h)
  | nopRepeat x => exact hs.of_same (nopRepeat_sameRecords h)
  | calswInputChange closed => exact hs.of_same (calswInputChange_sameRecords h)
  | tOn x rest | tOff x rest | nb x rest | noiseLim x rest | azl x rest | azTol x rest | azStep x rest
  | enable x rest | wLr x rest | straddleEn x rest | spdtol x rest | maxsp x rest | maxclose x rest | grp x rest
  | rdt x rest | probeMap x rest | probeEn x rest | tempHold x rest | hotTo x rest | hotTh x rest | hotMode x rest
  | coldTo x rest | coldTh x rest | coldMode x rest | testLimit x rest | testPeriod x rest | missLim x rest
  | holdoff x rest | attnMask x rest => exact param _ h
  | slotLen n x rest | slotRule n x rest => exact param _ h
  | nop x p | syncRead x p => exact host h fun _ hu => whenEmpty_keeps hu hu
  | sync x p => exact host h fun u hu => whenEmpty_keeps hu (hu.of_same (.of_eq rfl rfl))
  | status x p => exact host h fun u hu => hu.of_same (status_sameRecords p u)
  | paramRead x p => exact host h fun u hu => hu.of_same (paramRead_sameRecords p u)
  | counterRead x p => exact host h fun u hu => hu.of_same (counterRead_sameRecords p u)
  | trafficReset x p => exact host h fun _ hu => whenEmpty_keeps hu hu.trafficReset
  | recList x p => exact host h fun u hu => hu.of_same (recList_sameRecords p u)
  | recHead x p => exact host h fun _ hu => hu.recHead p
  | recAxles x p => exact host h fun u hu => hu.of_same (recAxles_sameRecords p u)
  | recHold x p => exact host h fun _ hu => hu.recHold p
  | recRelease x p => exact host h fun _ hu => hu.recRelease p
  | recTag x p => exact host h fun _ hu => hu.recTag p
  | recClose x p => exact host h fun _ hu => hu.recClose p
  | recRetire x p => exact host h fun _ hu => hu.recRetire p
  | recReclass x p => exact host h fun _ hu => hu.recReclass p
  | recMerge x p => exact host h fun _ hu => hu.recMerge p
  | recSplit x p => exact host h fun _ hu => hu.recSplit p
  | classWrite x p => exact host h fun u hu => hu.of_same (classWrite_sameRecords p u)
  | classClear x p | classSwap x p => exact host h fun u hu => whenEmpty_keeps hu (hu.of_same (.of_eq rfl rfl))
  | classRead x p => exact host h fun u hu => hu.of_same (classRead_sameRecords p u)
  | stripRemove x p => exact host h fun u hu => hu.of_same (stripRemove_sameRecords p u)
  | stripRestore x p => exact host h fun u hu => hu.of_same (stripRestore_sameRecords p u)
  | stripTest x p => exact host h fun u hu => hu.of_same (stripTest_sameRecords p u)
  | stripStatus x p => exact host h fun u hu => hu.of_same (stripStatus_sameRecords p u)
  | tempStatus x p => exact host h fun u hu => whenEmpty_keeps hu (hu.of_same (.of_eq rfl rfl))
  | calWrite x p => exact host h fun u hu => hu.of_same (calWrite_sameRecords p u)
  | calLoad x p => exact host h fun u hu => hu.of_same (calLoad_sameRecords p u)
  | calRead x p => exact host h fun u hu => hu.of_same (calRead_sameRecords p u)
  | calCommit x p => exact host h fun u hu => hu.of_same (calCommit_sameRecords p u)
  | trimSet x p => exact host h fun u hu => hu.of_same (trimSet_sameRecords p u)
  | trimStep x p => exact host h fun u hu => hu.of_same (trimStep_sameRecords p u)

/-- Settles O58: a command leaves the records alone, or its moves of records and contexts keep them sound; the queue of
waiting commands and site time are no part of them. -/
theorem stepsKeepRecordsSound : Obligations.StepsKeepRecordsSound := by
  intro s t hs h
  unfold Machine.step at h
  split at h
  next c rest _ => exact RecordsSound.exec (s := { s with pending := rest }) hs h
  next =>
    cases h
    unfold State.idle
    split
    · exact hs
    · exact hs

end Sys2Proof.Machine

/-! PROOFS. The attention line (R205). -/

namespace Sys2Proof.Machine

/-! ### The bits of a byte that gathers marks -/

theorem bit_eq_mul (w : Nat) (b : Bool) : bit w b = w * b.toNat := by cases b <;> simp [bit]

/-- A bit of a byte is read off the number that the byte holds. -/
theorem byte_getLsbD_eq {n k : Nat} {b : Bool} (hk : k < 8) (h : n / 2 ^ k % 2 = b.toNat) : (byte n).getLsbD k = b := by
  have hbit : (byte n).getLsbD k = n.testBit k := by
    rw [byte, BitVec.getLsbD_ofNat, decide_eq_true hk, Bool.true_and]
  rw [hbit, Nat.testBit_eq_decide_div_mod_eq, h]
  cases b <;> rfl

/-! ### The causes and the attention line (R126, R177, R205) -/

/-- Each cause stands at its place in the cause byte (R205). -/
theorem State.causes_getLsbD (s : State) :
    s.causes.getLsbD 0 = s.vrt.recordReady ∧ s.causes.getLsbD 1 = s.ptu.eventLatched ∧
    s.causes.getLsbD 2 = s.stripEvent ∧ s.causes.getLsbD 3 = s.cpt.calEvent ∧
    s.causes.getLsbD 4 = s.cpt.unrecordedLatch ∧ s.causes.getLsbD 5 = s.cpt.scheduleShort ∧
    s.causes.getLsbD 6 = false ∧ s.causes.getLsbD 7 = false := by
  have h0 := s.vrt.recordReady.toNat_le
  have h1 := s.ptu.eventLatched.toNat_le
  have h2 := s.stripEvent.toNat_le
  have h3 := s.cpt.calEvent.toNat_le
  have h4 := s.cpt.unrecordedLatch.toNat_le
  have h5 := s.cpt.scheduleShort.toNat_le
  simp only [State.causes, bit_eq_mul]
  refine ⟨?_, ?_, ?_, ?_, ?_, ?_, ?_, ?_⟩
  all_goals exact byte_getLsbD_eq (by decide) (by simp only [Nat.reducePow, Bool.toNat_false]; omega)

theorem Vrt.recordReady_iff {v : Vrt} : v.recordReady = true ↔ ∃ r ∈ v.live, r.state = .complete ∧ r.unread = true := by
  simp only [Vrt.recordReady, List.any_eq_true, Bool.and_eq_true, decide_eq_true_eq]

theorem exists_mem_toList {α : Type} {n : Nat} {v : Vector α n} {P : α → Prop} :
    (∃ a ∈ v.toList, P a) ↔ ∃ i : Fin n, P v[i] := by
  have h := not_congr (forall_mem_toList (v := v) (P := fun a => ¬ P a))
  push Not at h
  exact h

theorem Ptu.eventLatched_iff {q : Ptu} : q.eventLatched = true ↔
    ∃ p : Probe, q.probe[p].hot.event = true ∨ q.probe[p].cold.event = true ∨ q.probe[p].faultEvent = true := by
  simp only [Ptu.eventLatched, List.any_eq_true, exists_mem_toList, Bool.or_eq_true, or_assoc]

theorem State.stripEvent_iff {s : State} : s.stripEvent = true ↔
    ∃ i : Strip, s.shu[i].leftService = true ∨ s.shu[i].changed = true := by
  simp only [State.stripEvent, List.any_eq_true, exists_mem_toList, Bool.or_eq_true]

/-- A byte is not zero exactly when one of its bits is set. -/
theorem byte_ne_zero_iff {b : Byte} : b ≠ 0 ↔ ∃ k < 8, b.getLsbD k = true := by
  rw [ne_eq, BitVec.eq_of_getLsbD_eq_iff]
  simp

/-- The line is pulled low by a cause bit that the mask leaves through (R205). -/
theorem State.attn_iff {s : State} :
    s.attn = true ↔ ∃ k < 6, s.causes.getLsbD k = true ∧ s.par.attnMask.getLsbD k = false := by
  obtain ⟨-, -, -, -, -, -, h6, h7⟩ := s.causes_getLsbD
  rw [State.attn, decide_eq_true_eq, byte_ne_zero_iff]
  refine exists_congr fun k => ?_
  simp only [BitVec.getLsbD_and, BitVec.getLsbD_not, Bool.and_eq_true, Bool.not_eq_true', decide_eq_true_eq]
  constructor
  · rintro ⟨hk, hcause, -, hmask⟩
    have hk6 : k ≠ 6 := by rintro rfl; exact absurd (h6.symm.trans hcause) nofun
    have hk7 : k ≠ 7 := by rintro rfl; exact absurd (h7.symm.trans hcause) nofun
    exact ⟨by omega, hcause, hmask⟩
  · rintro ⟨hk, hcause, hmask⟩
    exact ⟨by omega, hcause, by omega, hmask⟩

/-- Settles O8: each cause bit is its block's mark, and two of the byte's bits are none. -/
theorem attentionFollowsUnmaskedCauses : Obligations.AttentionFollowsUnmaskedCauses := by
  intro s
  obtain ⟨h0, h1, h2, h3, h4, h5, -, -⟩ := s.causes_getLsbD
  rw [h0, h1, h2]
  exact ⟨Vrt.recordReady_iff, Ptu.eventLatched_iff, State.stripEvent_iff, h3, h4, h5, State.attn_iff⟩

end Sys2Proof.Machine

/-! PROOFS. The record commands (chapter 7): a record at its place in the table, reading and marking (R125, R130 to R137),
closing, retiring and reclassing (R138 to R140). -/

namespace Sys2Proof.Machine

/-! ### A record at its place in the table (R127, R129) -/

/-- The live records are xs, r and ys in opening order, and only r carries its number. -/
structure Vrt.Places (v : Vrt) (xs : List Record) (r : Record) (ys : List Record) : Prop where
  live : v.live = xs ++ r :: ys
  others : ∀ q ∈ xs ++ ys, q.number ≠ r.number

/-- The state with these live records. -/
def State.withLive (s : State) (rs : List Record) : State := { s with vrt := { s.vrt with live := rs } }

section
variable {v : Vrt} {s : State} {xs ys : List Record} {r : Record}

/-- A map that moves only the records of one number moves only the record placed. -/
theorem map_others {k : Nat} {rs : List Record} (h : ∀ q ∈ rs, q.number ≠ k) (f : Record → Record) :
    rs.map (fun q => if q.number = k then f q else q) = rs :=
  (List.map_congr_left fun q hq => if_neg (h q hq)).trans (List.map_id _)

theorem Vrt.Places.before (h : v.Places xs r ys) : ∀ q ∈ xs, q.number ≠ r.number := fun q hq =>
  h.others q (List.mem_append_left ys hq)

theorem Vrt.Places.behind (h : v.Places xs r ys) : ∀ q ∈ ys, q.number ≠ r.number := fun q hq =>
  h.others q (List.mem_append_right xs hq)

theorem Vrt.Places.find (h : v.Places xs r ys) : v.find r.number = some r := by
  have hxs : xs.find? (fun q => q.number = r.number) = none := List.find?_eq_none.2 (by simpa using h.before)
  rw [Vrt.find, h.live, List.find?_append, hxs]
  simp

theorem Vrt.Places.map_live (h : v.Places xs r ys) (f : Record → Record) :
    v.live.map (fun q => if q.number = r.number then f q else q) = xs ++ f r :: ys := by
  rw [h.live, List.map_append, List.map_cons, if_pos rfl, map_others h.before, map_others h.behind]

theorem Vrt.Places.filter_live (h : v.Places xs r ys) : v.live.filter (fun q => q.number ≠ r.number) = xs ++ ys := by
  rw [h.live, List.filter_append, List.filter_cons_of_neg (by simp),
    List.filter_eq_self.2 (by simpa using h.before), List.filter_eq_self.2 (by simpa using h.behind)]

theorem Vrt.Places.heldCount (h : v.Places xs r ys) :
    v.heldCount = ((xs ++ ys).countP fun q => q.held) + if r.held then 1 else 0 := by
  rw [Vrt.heldCount, h.live, List.countP_append, List.countP_cons, List.countP_append, Nat.add_assoc]

/-- A changed record that keeps its number stands in its old place. -/
theorem Vrt.Places.updated (h : v.Places xs r ys) {q : Record} (hq : q.number = r.number) :
    ({ v with live := xs ++ q :: ys } : Vrt).Places xs q ys := ⟨rfl, hq ▸ h.others⟩

theorem State.updRecord_placed (h : s.vrt.Places xs r ys) (f : Record → Record) :
    s.updRecord r.number f = s.withLive (xs ++ f r :: ys) := by
  rw [← h.map_live f]
  rfl

theorem State.withLive_self (h : s.vrt.Places xs r ys) : s.withLive (xs ++ r :: ys) = s := by
  rw [← h.live]
  rfl

end

theorem Vrt.find_missing {v : Vrt} {n : Nat} (h : n ∉ v.live.map (·.number)) : v.find n = none :=
  List.find?_eq_none.2 fun r hr => by simpa using fun he => h (List.mem_map.2 ⟨r, hr, he⟩)

/-! ### A command on one record (R131) -/

section
variable {n len : Nat} {s : State} {run : Record → Reply × State}

theorem numbered_length {q : List Byte} (hlen : q.length + 2 = len) : ((bytes2 n ++ q).length ≠ len) = False :=
  eq_false (not_not.2 ((List.length_append ..).trans ((Nat.add_comm ..).trans hlen)))

/-- A payload that begins with a number is a command on the record that carries it. -/
theorem recordCommand_found {q : List Byte} {r : Record} (hn : n < 65536) (hlen : q.length + 2 = len)
    (h : s.vrt.find n = some r) : recordCommand len (bytes2 n ++ q) s run = run r := by
  simp only [recordCommand, numbered_length hlen, if_false, u16_bytes2 n hn, h]

theorem recordCommand_missing {q : List Byte} (hn : n < 65536) (hlen : q.length + 2 = len) (h : s.vrt.find n = none) :
    recordCommand len (bytes2 n ++ q) s run = refuse .noRecord s := by
  simp only [recordCommand, numbered_length hlen, if_false, u16_bytes2 n hn, h]

theorem recordCommand_length {p : List Byte} (h : p.length ≠ len) : recordCommand len p s run = refuse .badValue s :=
  if_pos h

theorem inState_same {r : Record} {st : RecState} {run : Reply × State} (h : r.state = st) : inState r st s run = run :=
  if_pos h

theorem inState_other {r : Record} {st : RecState} {run : Reply × State} (h : r.state ≠ st) :
    inState r st s run = refuse .wrongState s := if_neg h

end

/-! ### REC_LIST (R132) -/

theorem lanesMask_iff {b : Byte} : b &&& 0xF0 ≠ 0 ↔ 16 ≤ b.toNat := by revert b; decide

theorem statesMask_iff {b : Byte} : b &&& 0xFC ≠ 0 ↔ 4 ≤ b.toNat := by revert b; decide

theorem Record.listed_eq (r : Record) (lanes states : Byte) : r.listed lanes states =
    (lanes.getLsbD r.lane.val && ((r.state = .opened && states.getLsbD 0) || (r.state = .complete && states.getLsbD 1))) := by
  cases h : r.state <;> simp [Record.listed, h]

theorem recList_masks {s : State} {lanes states : Byte} (hl : lanes.toNat < 16) (hs : states.toNat < 4) :
    recList [lanes, states] s =
      accept (byte (s.vrt.live.filter fun r => r.listed lanes states).length ::
        (s.vrt.live.filter fun r => r.listed lanes states).flatMap fun r => bytes2 r.number ++ [r.statusByte]) s := by
  have hmask : ¬ (lanes &&& 0xF0 ≠ 0 ∨ states &&& 0xFC ≠ 0) := by
    rw [lanesMask_iff, statesMask_iff]
    omega
  simp only [recList, if_neg hmask]

theorem recList_bad {s : State} {lanes states : Byte} (h : 16 ≤ lanes.toNat ∨ 4 ≤ states.toNat) :
    recList [lanes, states] s = refuse .badValue s := by
  rw [← lanesMask_iff, ← statesMask_iff] at h
  simp only [recList, if_pos h]

/-! ### Reading and marking a record (R125, R133 to R137) -/

/-- The reply of REC_HOLD, REC_RELEASE and REC_TAG for a record beside these others. -/
def markBytes (others : List Record) (r : Record) : List Byte :=
  bytes2 r.number ++ [r.statusByte, byte ((others.countP fun q => q.held) + if r.held then 1 else 0)]

section
variable {s : State} {xs ys : List Record} {r : Record} (h : s.vrt.Places xs r ys)
include h

theorem acceptMark_placed : acceptMark r.number s = accept (markBytes (xs ++ ys) r) s := by
  simp only [acceptMark, h.find, h.heldCount, markBytes]

/-- A marked record is reported as it then stands. -/
theorem acceptMark_updRecord (f : Record → Record) (hf : (f r).number = r.number) :
    acceptMark r.number (s.updRecord r.number f) = accept (markBytes (xs ++ ys) (f r)) (s.withLive (xs ++ f r :: ys)) := by
  rw [State.updRecord_placed h, ← hf]
  exact acceptMark_placed (s := s.withLive (xs ++ f r :: ys)) (h.updated hf)

variable (hn : r.number < 65536)
include hn

theorem recHead_placed : recHead (bytes2 r.number) s = accept r.headBytes
    (s.withLive (xs ++ (if r.state = .complete then { r with unread := false } else r) :: ys)) := by
  rw [← State.updRecord_placed h fun r => if r.state = .complete then { r with unread := false } else r]
  exact recordCommand_found (q := []) hn rfl h.find

theorem recAxles_placed {first count : Nat} (hfirst : first < r.axles.length) (hfirst' : first ≤ 11) (hcount : 1 ≤ count)
    (hcount' : count ≤ 8) : recAxles (bytes2 r.number ++ [byte first, byte count]) s =
      accept (bytes2 r.number ++ [byte first, byte (min count (r.axles.length - first))] ++
        ((r.axles.drop first).take count).flatMap AxleEntry.bytes) s := by
  have hu : u8 (bytes2 r.number ++ [byte first, byte count]) 2 = first :=
    (byte_toNat first).trans (Nat.mod_eq_of_lt (by omega))
  have hu' : u8 (bytes2 r.number ++ [byte first, byte count]) 3 = count :=
    (byte_toNat count).trans (Nat.mod_eq_of_lt (by omega))
  have hp : ¬ ((bytes2 r.number ++ [byte first, byte count]).length ≠ 4 ∨ 11 < first ∨ count = 0 ∨ 8 < count) := by
    rw [show (bytes2 r.number ++ [byte first, byte count]).length = 4 from rfl]
    omega
  simp only [recAxles, hu, hu', if_neg hp]
  refine (recordCommand_found hn rfl h.find).trans ?_
  rw [if_neg (Nat.not_le.2 hfirst), List.length_take, List.length_drop]

theorem recHold_placed (hroom : r.held = true ∨ ((xs ++ ys).countP fun q => q.held) < 38) :
    recHold (bytes2 r.number) s = accept (markBytes (xs ++ ys) { r with held := true })
      (s.withLive (xs ++ { r with held := true } :: ys)) := by
  refine (recordCommand_found (q := []) hn rfl h.find).trans ?_
  cases hheld : r.held with
  | true =>
    have hsame : { r with held := true } = r := by rw [← hheld]
    rw [if_pos rfl, hsame, State.withLive_self h]
    exact acceptMark_placed h
  | false =>
    have hlt : s.vrt.heldCount < 38 := by
      rw [h.heldCount, hheld]
      exact hroom.resolve_left (by simp [hheld])
    rw [if_neg Bool.false_ne_true, if_pos hlt]
    exact acceptMark_updRecord h (fun r => { r with held := true }) rfl

theorem recHold_full (hheld : r.held = false) (hfull : 38 ≤ (xs ++ ys).countP fun q => q.held) :
    recHold (bytes2 r.number) s = refuse .holdLimit s := by
  refine (recordCommand_found (q := []) hn rfl h.find).trans ?_
  have hlt : ¬ s.vrt.heldCount < 38 := by
    rw [h.heldCount]
    omega
  rw [hheld, if_neg Bool.false_ne_true, if_neg hlt]

theorem recRelease_placed : recRelease (bytes2 r.number) s = accept (markBytes (xs ++ ys) { r with held := false })
    (s.withLive (xs ++ { r with held := false } :: ys)) :=
  (recordCommand_found (q := []) hn rfl h.find).trans (acceptMark_updRecord h (fun r => { r with held := false }) rfl)

/-- REC_TAG with either action: the tag then is what the action and the value say. -/
theorem recTag_placed {action : Byte} (ha : action.toNat ≤ 1) (v : BitVec 32) {tag : Option (BitVec 32)}
    (htag : (if action.toNat = 1 then some v else none) = tag) :
    recTag (bytes2 r.number ++ action :: bytes4 v.toNat) s = accept (markBytes (xs ++ ys) { r with tag := tag })
      (s.withLive (xs ++ { r with tag := tag } :: ys)) := by
  have hu : u8 (bytes2 r.number ++ action :: bytes4 v.toNat) 2 = action.toNat := rfl
  have hv : u32 (bytes2 r.number ++ action :: bytes4 v.toNat) 3 = v.toNat := u32_bytes4 v.toNat v.isLt []
  have hp : ¬ ((bytes2 r.number ++ action :: bytes4 v.toNat).length ≠ 7 ∨ 1 < action.toNat) := by
    rw [show (bytes2 r.number ++ action :: bytes4 v.toNat).length = 7 from rfl]
    omega
  simp only [recTag, hu, hv, if_neg hp, BitVec.ofNat_toNat, BitVec.setWidth_eq, htag]
  exact (recordCommand_found hn rfl h.find).trans (acceptMark_updRecord h (fun r => { r with tag := tag }) rfl)

end

/-! ### A number that no record carries (R131) -/

theorem u8_splitIndex {n k : Nat} (hk : k < 256) : u8 (bytes2 n ++ [byte k]) 2 = k :=
  (byte_toNat k).trans (Nat.mod_eq_of_lt hk)

/-- With a split index of 0 to 11 the number decides next. -/
theorem recSplit_inRange {s : State} {n k : Nat} (hk : k ≤ 11) : recSplit (bytes2 n ++ [byte k]) s =
    recordCommand 3 (bytes2 n ++ [byte k]) s fun a =>
      inState a .complete s
        (if k = 0 ∨ a.axles.length ≤ k ∨ a.overflow then refuse .badValue s
        else if 40 ≤ s.vrt.live.length then refuse .tableFull s
        else accept (bytes2 a.number ++ bytes2 s.vrt.nextFree)
          (s.updVrt fun v => v.divided a.number (a.splitHead k s.par.grp s.cls)
            (a.splitTail k s.vrt.nextFree s.par.grp s.cls))) := by
  rw [recSplit, u8_splitIndex (Nat.lt_of_le_of_lt hk (by decide))]
  exact if_neg (not_or.2 ⟨not_not.2 rfl, Nat.not_lt.2 hk⟩)

section
variable {s : State} {n : Nat} (hn : n < 65536) (h : s.vrt.find n = none)
include hn h

theorem recAxles_missing : recAxles (bytes2 n ++ [0, 8]) s = refuse .noRecord s :=
  recordCommand_missing (q := [0, 8]) hn rfl h

theorem recTag_missing : recTag (bytes2 n ++ [0, 0, 0, 0, 0]) s = refuse .noRecord s :=
  recordCommand_missing (q := [0, 0, 0, 0, 0]) hn rfl h

/-- REC_SPLIT looks the record up once the split index is one of 0 to 11 (R145). -/
theorem recSplit_missing {k : Nat} (hk : k ≤ 11) : recSplit (bytes2 n ++ [byte k]) s = refuse .noRecord s :=
  (recSplit_inRange hk).trans (recordCommand_missing hn rfl h)

end

/-! ### Layouts (R130) -/

/-- The record status byte bit by bit (R130). -/
theorem Record.statusByte_bits (r : Record) :
    r.statusByte.toNat % 4 = r.lane.val ∧ r.statusByte.getLsbD 2 = decide (r.state = .complete) ∧
    r.statusByte.getLsbD 3 = r.held ∧ r.statusByte.getLsbD 4 = r.unread ∧ r.statusByte.getLsbD 5 = r.certified ∧
    r.statusByte.getLsbD 6 = r.tag.isSome ∧ r.statusByte.getLsbD 7 = r.straddle.isSome := by
  have h0 := r.lane.isLt
  have h2 := (decide (r.state = .complete)).toNat_le
  have h3 := r.held.toNat_le
  have h4 := r.unread.toNat_le
  have h5 := r.certified.toNat_le
  have h6 := r.tag.isSome.toNat_le
  have h7 := r.straddle.isSome.toNat_le
  simp only [Record.statusByte, bit_eq_mul]
  refine ⟨by rw [byte_toNat]; omega, ?_, ?_, ?_, ?_, ?_, ?_⟩
  all_goals exact byte_getLsbD_eq (by decide) (by simp only [Nat.reducePow]; omega)

/-- Behind the 46 bytes of fixed length stand the groups and the spacings. -/
theorem Record.headBytes_drop (r : Record) :
    r.headBytes.drop 46 = r.groups.flatMap Group.bytes ++ r.spacings.flatMap bytes2 := by
  simp only [Record.headBytes, bytes2, bytes4, signed2, List.cons_append, List.nil_append, List.drop_succ_cons,
    List.drop_zero]

theorem Group.bytes_length (g : Group) : g.bytes.length = 6 := rfl

theorem bytes2_length (n : Nat) : (bytes2 n).length = 2 := rfl

theorem Record.headBytes_length (r : Record) :
    r.headBytes.length = 46 + 6 * r.groups.length + 2 * r.spacings.length := by
  rw [Record.headBytes, List.length_append, List.length_append, length_flatMap_of_blocks Group.bytes_length,
    length_flatMap_of_blocks bytes2_length]
  simp only [bytes2, bytes4, signed2, List.length_append, List.length_cons, List.length_nil, Nat.reduceAdd, Nat.zero_add]

theorem Record.headBytes_group (r : Record) {k : Nat} (h : k < r.groups.length) :
    (r.headBytes.drop (46 + 6 * k)).take 6 = r.groups[k].bytes := by
  rw [← List.drop_drop, r.headBytes_drop]
  exact block_of_flatMap Group.bytes_length h _

theorem Record.headBytes_spacing (r : Record) {k : Nat} (h : k < r.spacings.length) :
    (r.headBytes.drop (46 + 6 * r.groups.length + 2 * k)).take 2 = bytes2 r.spacings[k] := by
  rw [← List.drop_drop, ← List.drop_drop, r.headBytes_drop, List.drop_left' (length_flatMap_of_blocks Group.bytes_length _),
    ← List.append_nil (r.spacings.flatMap bytes2)]
  exact block_of_flatMap bytes2_length h []

/-- Settles O45: one answer lemma per command and outcome, and the layouts byte by byte. -/
theorem recordReadsAndMarks : Obligations.RecordReadsAndMarks := by
  refine ⟨?_, ?_, ?_, ?_, ?_⟩
  · intro s x lanes states hx rs answer
    have hrs : s.vrt.live.filter (fun r => r.listed lanes states) = rs := List.filter_congr fun r _ => r.listed_eq lanes states
    refine ⟨fun hl hs => ?_, fun hbad => addressedCommand_refuses hx (recList_bad hbad)⟩
    have hlist := recList_masks (s := s.drive (xferBytes x [lanes, states])) hl hs
    rw [State.drive_vrt, hrs] at hlist
    exact addressedCommand_answers hx hlist
  · intro s x xs ys r hx hlive hone hn n put others marked
    have h (k : Nat) : (s.drive k).vrt.Places xs r ys := ⟨hlive, hone⟩
    refine ⟨addressedCommand_answers hx (recHead_placed (h _) hn), fun first count hf hf' hc hc' => ?_, fun hroom => ?_,
      fun hheld hfull => addressedCommand_refuses hx (recHold_full (h _) hn hheld hfull), ?_, fun v => ⟨?_, ?_⟩⟩
    · exact addressedCommand_answers hx (recAxles_placed (h _) hn hf hf' hc hc')
    · exact addressedCommand_answers hx (recHold_placed (h _) hn hroom)
    · exact addressedCommand_answers hx (recRelease_placed (h _) hn)
    · exact addressedCommand_answers hx (recTag_placed (h _) hn (by decide) v rfl)
    · exact addressedCommand_answers hx (recTag_placed (h _) hn (by decide) v rfl)
  · intro s x n hx hn hmissing missing p
    have hfind := Vrt.find_missing hmissing
    refine ⟨?_, ?_, ?_, ?_, ?_, ?_, ?_, ?_, ?_⟩
    · exact addressedCommand_refuses hx (recordCommand_missing (q := []) hn rfl hfind)
    · exact addressedCommand_refuses hx (recAxles_missing hn hfind)
    · exact addressedCommand_refuses hx (recordCommand_missing (q := []) hn rfl hfind)
    · exact addressedCommand_refuses hx (recordCommand_missing (q := []) hn rfl hfind)
    · exact addressedCommand_refuses hx (recTag_missing hn hfind)
    · exact addressedCommand_refuses hx (recordCommand_missing (q := []) hn rfl hfind)
    · exact addressedCommand_refuses hx (recordCommand_missing (q := []) hn rfl hfind)
    · exact addressedCommand_refuses hx (recordCommand_missing (q := []) hn rfl hfind)
    · exact addressedCommand_refuses hx (recSplit_missing (s := s.drive _) hn hfind (k := 1) (by decide))
  · intro r b
    obtain ⟨hlane, hstate, hrest⟩ := r.statusByte_bits
    refine ⟨hlane, ?_, hrest⟩
    rw [hstate, decide_eq_true_eq]
  · intro r field g
    refine ⟨r.headBytes_length, ?_, ?_, ?_, ?_, ?_, ?_, ?_, ?_, ?_, ?_, ?_, ?_, ?_, ?_, ?_, ?_, ?_, ?_, ?_,
      fun k => r.headBytes_group, fun k => r.headBytes_spacing⟩
    all_goals
      simp only [field, g, Record.headBytes, bit, bytes2, bytes4, signed2, List.cons_append, List.nil_append,
        List.drop_succ_cons, List.drop_zero, List.take_succ_cons, List.take_zero]
    cases r.laneValidity <;> rfl

end Sys2Proof.Machine

namespace Sys2Proof.Machine

/-! ### REC_CLOSE, REC_RETIRE and REC_RECLASS (R138 to R140) -/

section
variable {s : State} {xs ys : List Record} {r : Record} (h : s.vrt.Places xs r ys)
include h

/-- A closed record is found in its place. -/
theorem afterClose_find (n : Lane) : (afterClose s n r.number).vrt.find r.number = some (closed s r) := by
  have hplaces : (afterClose s n r.number).vrt.Places xs (closed s r) ys := ⟨h.map_live (closed s), h.others⟩
  exact hplaces.find

theorem Vrt.Places.free : s.vrt.free r.number =
    { s.vrt with live := xs ++ ys, completed := s.vrt.completed.filter fun k => k ≠ r.number } := by
  rw [Vrt.free, h.filter_live]

variable (hn : r.number < 65536)
include hn

theorem recClose_opened (hst : r.state = .opened) : recClose (bytes2 r.number) s =
    accept (bytes2 r.number ++ [(closed s r).statusByte, byte (closed s r).classCode]) (afterClose s r.lane r.number) := by
  refine (recordCommand_found (q := []) hn rfl h.find).trans ?_
  simp only [inState_same hst, State.closeRecord_eq, afterClose_find h]

theorem recClose_complete (hst : r.state = .complete) : recClose (bytes2 r.number) s = refuse .wrongState s :=
  (recordCommand_found (q := []) hn rfl h.find).trans (inState_other (by rw [hst]; decide))

theorem recRetire_opened (hst : r.state = .opened) : recRetire (bytes2 r.number) s = refuse .wrongState s :=
  (recordCommand_found (q := []) hn rfl h.find).trans (inState_other (by rw [hst]; decide))

theorem recRetire_complete (hst : r.state = .complete) : recRetire (bytes2 r.number) s = accept (bytes2 r.number)
    { s with vrt := { s.vrt with live := xs ++ ys, completed := s.vrt.completed.filter fun k => k ≠ r.number } } := by
  refine (recordCommand_found (q := []) hn rfl h.find).trans ((inState_same hst).trans ?_)
  rw [State.updVrt, h.free]

theorem recReclass_opened (hst : r.state = .opened) : recReclass (bytes2 r.number) s = refuse .wrongState s :=
  (recordCommand_found (q := []) hn rfl h.find).trans (inState_other (by rw [hst]; decide))

theorem recReclass_complete (hst : r.state = .complete) : recReclass (bytes2 r.number) s =
    accept (bytes2 r.number ++ [byte (s.cls.classify r.query)] ++ bytes2 s.cls.generation)
      (s.withLive (xs ++ r.classed s.cls :: ys)) := by
  refine (recordCommand_found (q := []) hn rfl h.find).trans ((inState_same hst).trans ?_)
  rw [← State.updRecord_placed h fun _ => r.classed s.cls]
  rfl

end

/-- Settles O46: each command on a record of either state, and on a payload of another length. -/
theorem recordsCloseRetireAndReclass : Obligations.RecordsCloseRetireAndReclass := by
  intro s x xs ys r hx hlive hone hn n answer
  have h (k : Nat) : (s.drive k).vrt.Places xs r ys := ⟨hlive, hone⟩
  refine ⟨fun hst => ⟨?_, ?_, ?_⟩, fun hst => ⟨?_, ?_, ?_⟩, fun p hp => ⟨?_, ?_, ?_⟩⟩
  · exact addressedCommand_answers hx (recClose_opened (h _) hn hst)
  · exact addressedCommand_refuses hx (recRetire_opened (h _) hn hst)
  · exact addressedCommand_refuses hx (recReclass_opened (h _) hn hst)
  · exact addressedCommand_refuses hx (recClose_complete (h _) hn hst)
  · exact addressedCommand_answers hx (recRetire_complete (h _) hn hst)
  · exact addressedCommand_answers hx (recReclass_complete (h _) hn hst)
  · exact addressedCommand_refuses hx (recordCommand_length hp)
  · exact addressedCommand_refuses hx (recordCommand_length hp)
  · exact addressedCommand_refuses hx (recordCommand_length hp)

end Sys2Proof.Machine

/-! PROOFS. Merging and splitting records (R141 to R146). -/

namespace Sys2Proof.Machine

/-! ### Recomputed figures (R102, R116, R141) -/

theorem hasCode_codeBit {j : Nat} (hj : j < 32) (set : CodeSet) : hasCode set (codeBit j) = set.getLsbD j := by
  have hbits (k : Nat) : (set &&& codeBit j).getLsbD k = (set.getLsbD k && decide (k = j)) := by
    rw [BitVec.getLsbD_and, codeBit_getLsbD hj]
  cases hset : set.getLsbD j with
  | true =>
    refine decide_eq_true fun hzero => ?_
    have hj' := hbits j
    rw [hzero, hset] at hj'
    simp at hj'
  | false =>
    refine decide_eq_false (not_not.2 (BitVec.eq_of_getLsbD_eq fun k _ => ?_))
    rw [hbits, show (0 : CodeSet).getLsbD k = false from BitVec.getLsbD_zero]
    by_cases hk : k = j
    · rw [hk, hset, Bool.false_and]
    · rw [decide_eq_false hk, Bool.and_false]

/-- What a merge or a split recomputes, for a record with a listed axle (R141). -/
theorem Record.refigured_eq (s : State) {r : Record} (h : r.axles ≠ []) :
    r.refigured s.par.grp s.cls = Machine.refigured s r := by
  have hfirst : (r.axles.head?.map (·.time)).getD r.firstTime = (r.axles.map (·.time)).headD 0 := by
    obtain ⟨a, as, e⟩ := List.exists_cons_of_ne_nil h
    rw [e]
    rfl
  have hlast : (r.axles.getLast?.map (·.time)).getD r.lastTime = (r.axles.map (·.time)).getLastD 0 := by
    rw [List.getLastD_eq_getLast?, List.getLast?_map, List.getLast?_eq_some_getLast h]
    rfl
  have hany : (r.axles.any fun a => hasCode a.flags flagStraddle) = r.axles.any fun a => a.flags.getLsbD 16 :=
    congrArg r.axles.any (funext fun a => hasCode_codeBit (by decide) a.flags)
  have hstraddle : (if (r.axles.any fun a => a.flags.getLsbD 16) = true then some r.lane.val else none) =
      if ∃ a ∈ r.axles, a.flags.getLsbD 16 = true then some r.lane.val else none := by
    simp only [List.any_eq_true]
  have hsome : (if (r.axles.any fun a => a.flags.getLsbD 16) = true then some r.lane.val else none).isSome =
      r.axles.any fun a => a.flags.getLsbD 16 := by
    cases r.axles.any fun a => a.flags.getLsbD 16 <;> rfl
  simp only [Record.refigured, Record.classed, Record.query, hfirst, hlast, hany, hsome, Machine.refigured, ← hstraddle]
  rfl

theorem spacing_eq (t₁ : Time) (v₁ : Nat) (t₂ : Time) (v₂ : Nat) : spacing t₁ v₁ t₂ v₂ =
    if (t₂ - t₁).toNat < 2147483648 then min (((t₂ - t₁).toNat * ((v₁ + v₂) / 2) + 80000) / 160000) 65535
    else 65535 := by
  simp only [spacing, inReach_iff, elapsed]

/-! ### The merged record (R143, R144) -/

/-- The record that stands in a's place after b has been joined to it. -/
def State.mergedRecord (s : State) (a b : Record) (gap : Nat) : Record :=
  { refigured s { a with axles := a.axles ++ b.axles, spacings := a.spacings ++ [gap] ++ b.spacings } with
    calChanged := a.calChanged || b.calChanged || a.calCounter ≠ b.calCounter
    closeTime := b.closeTime
    held := a.held || b.held
    tag := a.tag <|> b.tag
    unread := true
    reasons := a.reasons ||| b.reasons |||
      (if a.calChanged || b.calChanged || a.calCounter ≠ b.calCounter then codeCalChanged else 0) ||| codeHostEdited
    certified := false }

theorem Record.merge_eq (s : State) {a b : Record} {e f : AxleEntry} {es fs : List AxleEntry} (ha : a.axles = es ++ [e])
    (hb : b.axles = f :: fs) :
    a.merge b s.par.grp s.cls = s.mergedRecord a b (spacing e.time e.speed f.time f.speed) := by
  have hgap : joinSpacing a b = spacing e.time e.speed f.time f.speed := by
    rw [joinSpacing, ha, hb, List.getLast?_concat]
    rfl
  have htag : (if a.tag.isSome then a.tag else b.tag) = (a.tag <|> b.tag) := by cases a.tag <;> rfl
  have hlisted : a.axles ++ b.axles ≠ [] := by simp [ha]
  have hspacings : a.spacings ++ spacing e.time e.speed f.time f.speed :: b.spacings =
      a.spacings ++ [spacing e.time e.speed f.time f.speed] ++ b.spacings := by
    rw [List.append_assoc]
    rfl
  simp only [Record.merge, hgap, htag, hspacings]
  rw [Record.refigured_eq s hlisted]
  rfl

/-! ### Neighbours in the opening order (R127, R142) -/

/-- Behind a record placed, its lane's records that follow it. -/
theorem Vrt.Places.lane_behind {v : Vrt} {xs ys : List Record} {a : Record} (h : v.Places xs a ys) :
    ((v.live.filter fun r => r.lane = a.lane).dropWhile fun r => r.number ≠ a.number).drop 1 =
      ys.filter fun r => r.lane = a.lane := by
  have hbefore : ∀ q ∈ xs.filter fun r => r.lane = a.lane, decide (q.number ≠ a.number) = true := fun q hq =>
    decide_eq_true (h.before q (List.mem_filter.1 hq).1)
  rw [h.live, List.filter_append, List.filter_cons_of_pos (by simp), List.dropWhile_append_of_pos hbefore,
    List.dropWhile_cons_of_neg (by simp)]
  rfl

theorem Vrt.adjacent_placed {v : Vrt} {xs ys : List Record} {a : Record} (h : v.Places xs a ys) (b : Record) :
    v.adjacent a b = true ↔
      a.lane = b.lane ∧ (ys.filter fun r => r.lane = a.lane).head?.map (·.number) = some b.number := by
  rw [Vrt.adjacent, h.lane_behind, Bool.and_eq_true, decide_eq_true_eq, decide_eq_true_eq]

section
variable {v : Vrt} {xs ys zs : List Record} {a b : Record} (hnodup : (v.live.map (·.number)).Nodup)
include hnodup

/-- In a table of distinct numbers every record stands alone with its own. -/
theorem Vrt.places_of_nodup (hlive : v.live = xs ++ a :: ys) : v.Places xs a ys := by
  refine ⟨hlive, fun q hq he => ?_⟩
  have hperm : (v.live.map (·.number)).Perm (a.number :: (xs ++ ys).map (·.number)) := by
    rw [hlive]
    exact List.perm_middle.map _
  exact (List.nodup_cons.1 (hperm.nodup_iff.1 hnodup)).1 (he ▸ List.mem_map_of_mem hq)

/-- The first of two records, with all that follows it. -/
theorem Vrt.places_first (hlive : v.live = xs ++ a :: ys ++ b :: zs) : v.Places xs a (ys ++ b :: zs) :=
  Vrt.places_of_nodup hnodup (hlive.trans (List.append_assoc ..))

/-- The next record of a's lane is adjacent to it. -/
theorem Vrt.adjacent_next (hlive : v.live = xs ++ a :: ys ++ b :: zs) (hlane : a.lane = b.lane)
    (hys : ∀ q ∈ ys, q.lane ≠ a.lane) : v.adjacent a b = true := by
  refine (Vrt.adjacent_placed (Vrt.places_first hnodup hlive) b).2 ⟨hlane, ?_⟩
  rw [List.filter_append, List.filter_eq_nil_iff.2 (by simpa using hys), List.nil_append,
    List.filter_cons_of_pos (by simp [hlane])]
  rfl

/-- A record that stands before a is not adjacent behind it. -/
theorem Vrt.not_adjacent_before (hlive : v.live = xs ++ b :: ys ++ a :: zs) : v.adjacent a b = false := by
  have hplaces := Vrt.places_first hnodup hlive
  refine Bool.eq_false_iff.2 fun hadj => ?_
  obtain ⟨-, hhead⟩ := (Vrt.adjacent_placed (Vrt.places_of_nodup hnodup hlive) b).1 hadj
  obtain ⟨q, hq, hnum⟩ := Option.map_eq_some_iff.1 hhead
  have hmem := (List.mem_filter.1 (List.mem_of_head? hq)).1
  exact hplaces.behind q (List.mem_append_right ys (List.mem_cons_of_mem a hmem)) hnum

/-- A record of a's lane between the two keeps them from being adjacent. -/
theorem Vrt.not_adjacent_between (hlive : v.live = xs ++ a :: ys ++ b :: zs) (hys : ∃ q ∈ ys, q.lane = a.lane) :
    v.adjacent a b = false := by
  have hplaces := Vrt.places_of_nodup (a := b) hnodup hlive
  refine Bool.eq_false_iff.2 fun hadj => ?_
  obtain ⟨-, hhead⟩ := (Vrt.adjacent_placed (Vrt.places_first hnodup hlive) b).1 hadj
  obtain ⟨q, hq, hlane⟩ := hys
  have hmem : q ∈ ys.filter fun r => r.lane = a.lane := List.mem_filter.2 ⟨hq, decide_eq_true hlane⟩
  obtain ⟨c, cs, hcs⟩ := List.exists_cons_of_ne_nil (List.ne_nil_of_mem hmem)
  rw [List.filter_append, hcs] at hhead
  have hc : c ∈ ys := (List.mem_filter.1 (hcs ▸ List.mem_cons_self)).1
  exact hplaces.before c (List.mem_append_right xs (List.mem_cons_of_mem a hc)) (Option.some.inj hhead)

/-- The merged record stands in a's place, and b is gone from both lists (R144). -/
theorem Vrt.joined_placed (hlive : v.live = xs ++ a :: ys ++ b :: zs) {m : Record} (hm : m.number = a.number) :
    v.joined a.number b.number m = { v with
      live := xs ++ m :: ys ++ zs
      completed := (v.completed.filter fun k => k ≠ a.number).map fun k => if k = b.number then a.number else k } := by
  have hb := Vrt.places_of_nodup (a := b) hnodup hlive
  have ha := Vrt.places_first hnodup hlive
  have hmb : m.number ≠ b.number := hm ▸ hb.before a (List.mem_append_right xs List.mem_cons_self)
  have hjoined : ({ v with live := xs ++ m :: ys ++ b :: zs } : Vrt).Places (xs ++ m :: ys) b zs := by
    refine ⟨rfl, fun q hq => ?_⟩
    simp only [List.mem_append, List.mem_cons, or_assoc] at hq
    rcases hq with hq | rfl | hq
    · exact hb.before q (List.mem_append_left _ hq)
    · exact hmb
    · refine hb.others q ?_
      simp only [List.mem_append, List.mem_cons, or_assoc]
      exact .inr (.inr hq)
  have hmap : v.live.map (fun r => if r.number = a.number then m else r) = xs ++ m :: ys ++ b :: zs := by
    rw [ha.map_live fun _ => m, List.append_assoc]
    rfl
  rw [Vrt.joined, hmap, hjoined.filter_live]

end

/-! ### REC_MERGE (R142 to R144) -/

section
variable {s : State} {k n : Nat} (hk : k < 65536) (hn : n < 65536)
include hk hn

/-- The numbers that a REC_MERGE payload names. -/
theorem u16_bytes2_bytes2 : u16 (bytes2 k ++ bytes2 n) 0 = k ∧ u16 (bytes2 k ++ bytes2 n) 2 = n :=
  ⟨u16_bytes2 k hk _, u16_bytes2 n hn []⟩

theorem recMerge_missing (hkn : k ≠ n) (h : s.vrt.find k = none ∨ s.vrt.find n = none) :
    recMerge (bytes2 k ++ bytes2 n) s = refuse .noRecord s := by
  obtain ⟨hu, hu'⟩ := u16_bytes2_bytes2 hk hn
  have hp : ¬ ((bytes2 k ++ bytes2 n).length ≠ 4 ∨ k = n) := not_or.2 ⟨not_not.2 rfl, hkn⟩
  rw [recMerge, hu, hu', if_neg hp]
  split
  next a b hfa hfb => simp [hfa, hfb] at h
  next => rfl

/-- REC_MERGE of two live records: the checks of R142 in their order, then the merge. -/
theorem recMerge_found (hkn : k ≠ n) {a b : Record} (ha : s.vrt.find k = some a) (hb : s.vrt.find n = some b) :
    recMerge (bytes2 k ++ bytes2 n) s =
      if a.state ≠ .complete ∨ b.state ≠ .complete then refuse .wrongState s
      else if s.vrt.adjacent a b = false then refuse .notAdjacent s
      else if a.overflow ∨ b.overflow ∨ 12 < a.axles.length + b.axles.length then refuse .tooManyAxles s
      else accept (bytes2 a.number ++ [(a.merge b s.par.grp s.cls).statusByte])
        (s.updVrt fun v => v.joined a.number b.number (a.merge b s.par.grp s.cls)) := by
  obtain ⟨hu, hu'⟩ := u16_bytes2_bytes2 hk hn
  have hp : ¬ ((bytes2 k ++ bytes2 n).length ≠ 4 ∨ k = n) := not_or.2 ⟨not_not.2 rfl, hkn⟩
  simp only [recMerge, hu, hu', if_neg hp, ha, hb, Bool.not_eq_true']

end

theorem recMerge_same {s : State} {k : Nat} (hk : k < 65536) : recMerge (bytes2 k ++ bytes2 k) s = refuse .badValue s := by
  obtain ⟨hu, hu'⟩ := u16_bytes2_bytes2 hk hk
  rw [recMerge, hu, hu', if_pos (.inr rfl)]

/-- Settles O47: the checks of R142 in their order, the neighbours by the places of the two records, and the merged record. -/
theorem mergeJoinsNeighbours : Obligations.MergeJoinsNeighbours := by
  intro s x hx
  refine ⟨fun a ha => addressedCommand_refuses hx (recMerge_same ha), fun a b ha hb hab hmissing => ?_,
    ?_⟩
  · exact addressedCommand_refuses hx (recMerge_missing (s := s.drive _) ha hb hab
      (hmissing.imp Vrt.find_missing Vrt.find_missing))
  intro a b ha hb hnodup hna hnb hab p refused
  have hfind {r : Record} (hr : r ∈ s.vrt.live) : s.vrt.find r.number = some r := by
    obtain ⟨xs, ys, hlive⟩ := List.mem_iff_append.1 hr
    exact (Vrt.places_of_nodup hnodup hlive).find
  have hmerge := recMerge_found (s := s.drive (xferBytes x p)) hna hnb hab (hfind ha) (hfind hb)
  refine ⟨fun hst => ?_, fun hsa hsb => ?_⟩
  · refine addressedCommand_refuses hx (hmerge.trans (if_pos (hst.imp ?_ ?_)))
    all_goals intro h; rw [h]; decide
  rw [if_neg (by simp [hsa, hsb])] at hmerge
  refine ⟨fun hapart => ?_, fun xs ys zs hlive hlane hys => ⟨fun hmany => ?_, ?_⟩⟩
  · refine addressedCommand_refuses hx (hmerge.trans (if_pos ?_))
    rcases hapart with hlane | ⟨xs, ys, zs, hlive⟩ | ⟨xs, ys, zs, hlive, hys⟩
    · exact Bool.eq_false_iff.2 fun hadj => hlane (of_decide_eq_true (Bool.and_eq_true_iff.1 hadj).1)
    · exact Vrt.not_adjacent_before hnodup hlive
    · exact Vrt.not_adjacent_between hnodup hlive hys
  · rw [if_neg (by simp [Vrt.adjacent_next hnodup hlive hlane hys])] at hmerge
    exact addressedCommand_refuses hx (hmerge.trans (if_pos hmany))
  · intro e f es fs hao hbo hlen hea hfb gap changed m
    have hm : a.merge b s.par.grp s.cls = m := by
      rw [Record.merge_eq s hea hfb, spacing_eq]
      rfl
    rw [if_neg (by simp [Vrt.adjacent_next hnodup hlive hlane hys]), if_neg (by simp [hao, hbo, hlen]), State.updVrt,
      State.drive_par, State.drive_cls, State.drive_vrt, hm,
      Vrt.joined_placed hnodup hlive (show m.number = a.number from rfl)] at hmerge
    exact addressedCommand_answers hx hmerge

end Sys2Proof.Machine

namespace Sys2Proof.Machine

/-! ### The parts of a split record (R146) -/

theorem Record.part_eq (s : State) (r : Record) {axles : List AxleEntry} (h : axles ≠ []) (spacings : List Nat) :
    r.part axles spacings s.par.grp s.cls = splitPart s r axles spacings := by
  have hreasons (t : Record) (ht : t.overflow = false) : t.splitReasons = closedReasons t ||| codeHostEdited := by
    simp only [Record.splitReasons, closedReasons, ht, Bool.false_eq_true, if_false, BitVec.ofNat_eq_ofNat,
      BitVec.or_zero, uncertifyingFlags, codeIf]
  simp only [Record.part]
  rw [Record.refigured_eq s h, hreasons _ rfl]
  rfl

/-- The new record stands directly behind the old one in both lists, and its number moves the counter (R112, R146). -/
theorem Vrt.Places.divided {v : Vrt} {xs ys : List Record} {a : Record} (h : v.Places xs a ys) (head tail : Record) :
    v.divided a.number head tail =
      { live := xs ++ head :: tail :: ys
        completed := v.completed.flatMap fun k => if k = a.number then [k, tail.number] else [k]
        counter := if tail.number < 65535 then tail.number + 1 else 1 } := by
  have hrest {rs : List Record} (hrs : ∀ q ∈ rs, q.number ≠ a.number) :
      rs.flatMap (fun r => if r.number = a.number then [head, tail] else [r]) = rs :=
    (List.flatMap_congr fun q hq => if_neg (hrs q hq)).trans (List.flatMap_singleton' rs)
  have hlive : v.live.flatMap (fun r => if r.number = a.number then [head, tail] else [r]) = xs ++ head :: tail :: ys := by
    rw [h.live, List.flatMap_append, List.flatMap_cons, if_pos rfl, hrest h.before, hrest h.behind]
    rfl
  have hcompleted : v.completed.flatMap (fun k => if k = a.number then [a.number, tail.number] else [k]) =
      v.completed.flatMap fun k => if k = a.number then [k, tail.number] else [k] :=
    List.flatMap_congr fun k _ => if_ctx_congr .rfl (fun hk => by rw [hk]) fun _ => rfl
  rw [Vrt.divided, hlive, hcompleted]
  rfl

/-! ### REC_SPLIT (R145, R146) -/

section
variable {s : State} {k : Nat}

theorem recSplit_index {n : Nat} (hk : k < 256) (h : 11 < k) : recSplit (bytes2 n ++ [byte k]) s = refuse .badValue s := by
  rw [recSplit, u8_splitIndex hk]
  exact if_pos (.inr h)

variable {xs ys : List Record} {a : Record} (h : s.vrt.Places xs a ys) (hn : a.number < 65536) (hk : k ≤ 11)
include h hn hk

theorem recSplit_opened (hst : a.state = .opened) : recSplit (bytes2 a.number ++ [byte k]) s = refuse .wrongState s :=
  (recSplit_inRange hk).trans ((recordCommand_found hn rfl h.find).trans (inState_other (by rw [hst]; decide)))

variable (hst : a.state = .complete)
include hst

/-- REC_SPLIT of a COMPLETE record: the checks of R145 that are left, then the split. -/
theorem recSplit_complete : recSplit (bytes2 a.number ++ [byte k]) s =
    if k = 0 ∨ a.axles.length ≤ k ∨ a.overflow then refuse .badValue s
    else if 40 ≤ s.vrt.live.length then refuse .tableFull s
    else accept (bytes2 a.number ++ bytes2 s.vrt.nextFree)
      (s.updVrt fun v => v.divided a.number (a.splitHead k s.par.grp s.cls)
        (a.splitTail k s.vrt.nextFree s.par.grp s.cls)) :=
  (recSplit_inRange hk).trans ((recordCommand_found hn rfl h.find).trans (inState_same hst))

theorem recSplit_uncut (hbad : k = 0 ∨ a.axles.length ≤ k ∨ a.overflow = true) :
    recSplit (bytes2 a.number ++ [byte k]) s = refuse .badValue s :=
  (recSplit_complete h hn hk hst).trans (if_pos hbad)

variable (hpos : 1 ≤ k) (hlt : k < a.axles.length) (hover : a.overflow = false)
include hpos hlt hover

theorem recSplit_cut : recSplit (bytes2 a.number ++ [byte k]) s =
    if 40 ≤ s.vrt.live.length then refuse .tableFull s
    else accept (bytes2 a.number ++ bytes2 s.vrt.nextFree)
      (s.updVrt fun v => v.divided a.number (a.splitHead k s.par.grp s.cls)
        (a.splitTail k s.vrt.nextFree s.par.grp s.cls)) := by
  have hgood : ¬ (k = 0 ∨ a.axles.length ≤ k ∨ a.overflow = true) :=
    not_or.2 ⟨by omega, not_or.2 ⟨by omega, Bool.eq_false_iff.1 hover⟩⟩
  exact (recSplit_complete h hn hk hst).trans (if_neg hgood)

theorem recSplit_full (hfull : 40 ≤ s.vrt.live.length) :
    recSplit (bytes2 a.number ++ [byte k]) s = refuse .tableFull s :=
  (recSplit_cut h hn hk hst hpos hlt hover).trans (if_pos hfull)

theorem recSplit_divides (hroom : s.vrt.live.length < 40) : recSplit (bytes2 a.number ++ [byte k]) s =
    accept (bytes2 a.number ++ bytes2 s.vrt.nextFree)
      { s with
        vrt :=
          { live := xs ++ splitPart s a (a.axles.take k) (a.spacings.take (k - 1)) ::
              splitPart s { a with number := s.vrt.nextFree, held := false, tag := none } (a.axles.drop k)
                (a.spacings.drop k) :: ys
            completed := s.vrt.completed.flatMap fun m => if m = a.number then [m, s.vrt.nextFree] else [m]
            counter := if s.vrt.nextFree < 65535 then s.vrt.nextFree + 1 else 1 } } := by
  have htake : a.axles.take k ≠ [] := List.ne_nil_of_length_pos (by rw [List.length_take]; omega)
  have hdrop : a.axles.drop k ≠ [] := List.ne_nil_of_length_pos (by rw [List.length_drop]; omega)
  rw [recSplit_cut h hn hk hst hpos hlt hover, if_neg (Nat.not_le.2 hroom), State.updVrt, h.divided, Record.splitHead,
    Record.splitTail, Record.part_eq s a htake, Record.part_eq s _ hdrop]
  rfl

end

/-- Settles O48: the checks of R145 in their order, then the two parts at their places. -/
theorem splitDividesARecord : Obligations.SplitDividesARecord := by
  intro s x xs ys a k hx hlive hone hn hk p refused
  have h (j : Nat) : (s.drive j).vrt.Places xs a ys := ⟨hlive, hone⟩
  refine ⟨fun hlarge => ?_, fun n hn' hmissing hk' => ?_, fun hk' hst => ?_, fun hk' hst hbad => ?_,
    fun hpos hk' hlt hst hover hfull => ?_, fun hpos hk' hlt hst hover hroom => ⟨s.vrt.nextFree, ?_, ?_⟩⟩
  · exact addressedCommand_refuses hx (recSplit_index hk hlarge)
  · exact addressedCommand_refuses hx (recSplit_missing (s := s.drive _) hn' (Vrt.find_missing hmissing) hk')
  · exact addressedCommand_refuses hx (recSplit_opened (h _) hn hk' hst)
  · exact addressedCommand_refuses hx (recSplit_uncut (h _) hn hk' hst hbad)
  · exact addressedCommand_refuses hx (recSplit_full (h _) hn hk' hst hpos hlt hover hfull)
  · exact Vrt.nextFree_allocated hroom.le
  · exact addressedCommand_answers hx (recSplit_divides (h _) hn hk' hst hpos hlt hover hroom)

end Sys2Proof.Machine

/-! PROOFS. The classing scheme: the conditions of a rule and the first match (R157, R159), the rule image (R151, R152) and the
four class table commands (R151 to R155). -/

namespace Sys2Proof.Machine

/-! ### The conditions of a rule (R157) -/

theorem boundHolds_iff {b : Option Nat} {f : Nat → Bool} : boundHolds b f = true ↔ ∀ g, b = some g → f g = true := by
  cases b <;> simp [boundHolds]

/-- Every window has a spacing at its place, and the spacing lies in it (R157 condition 4). -/
theorem windowsHold_iff (ws : List (Nat × Nat)) (xs : List Nat) : windowsHold ws xs = true ↔
    ws.length ≤ xs.length ∧
      ∀ j, (h : j < ws.length) → ws[j].1 ≤ xs.getD j 0 ∧ xs.getD j 0 ≤ ws[j].2 := by
  induction ws generalizing xs with
  | nil => simp [windowsHold]
  | cons w ws ih =>
    cases xs with
    | nil => simp [windowsHold]
    | cons x xs =>
      simp only [windowsHold, Bool.and_eq_true, decide_eq_true_eq, ih, List.length_cons, Nat.succ_le_succ_iff]
      constructor
      · rintro ⟨hx, hlen, hws⟩
        refine ⟨hlen, fun j hj => ?_⟩
        cases j with
        | zero => exact hx
        | succ j => exact hws j (Nat.lt_of_succ_lt_succ hj)
      · rintro ⟨hlen, hws⟩
        exact ⟨hws 0 (Nat.succ_pos _), hlen, fun j hj => hws (j + 1) (Nat.succ_lt_succ hj)⟩

/-- The five conditions of R157 on a valid rule. -/
def ClassRule.Fits (r : ClassRule) (q : ClassQuery) : Prop :=
  r.valid = true ∧ (r.axMin ≤ q.count ∧ q.count ≤ r.axMax) ∧
  ((∀ g, r.grossMin = some g → g ≤ q.gross) ∧ ∀ g, r.grossMax = some g → q.gross ≤ g) ∧
  (q.straddle = true → r.straddle = true) ∧
  (r.windows.length ≤ q.spacings.length ∧
    ∀ j, (h : j < r.windows.length) → r.windows[j].1 ≤ q.spacings.getD j 0 ∧ q.spacings.getD j 0 ≤ r.windows[j].2) ∧
  ∀ sizes, r.pattern = some sizes → sizes = q.groups

theorem ClassRule.matches_iff (r : ClassRule) (q : ClassQuery) : r.matches q = true ↔ r.Fits q := by
  have hstraddle : (!q.straddle || r.straddle) = true ↔ (q.straddle = true → r.straddle = true) := by
    cases q.straddle <;> simp
  rw [ClassRule.Fits, ← windowsHold_iff, ← hstraddle]
  simp only [ClassRule.matches, Bool.and_eq_true, decide_eq_true_eq, boundHolds_iff, and_assoc]
  cases r.pattern with
  | none => simp only [reduceCtorEq, false_implies, implies_true]
  | some sizes => simp only [decide_eq_true_eq, Option.some.injEq, forall_eq']

/-! ### The first match (R159) -/

section
variable {c : Cls} {q : ClassQuery}

theorem Cls.classify_first {k : Fin 32} (hk : c.active[k].Fits q) (hbefore : ∀ j : Fin 32, j < k → ¬ c.active[j].Fits q) :
    c.classify q = c.active[k].code := by
  have hfind : (c.active.toList.find? fun r => r.matches q) = some c.active[k] := by
    refine List.find?_eq_some_iff_getElem.2
      ⟨(ClassRule.matches_iff _ q).2 hk, k.val, by rw [Vector.length_toList]; exact k.isLt, rfl, fun j hj => ?_⟩
    rw [Bool.not_eq_true', Bool.eq_false_iff]
    exact fun h => hbefore ⟨j, hj.trans k.isLt⟩ hj ((ClassRule.matches_iff _ q).1 h)
  simp only [Cls.classify, hfind]

theorem Cls.classify_none (h : ∀ k : Fin 32, ¬ c.active[k].Fits q) : c.classify q = 0 := by
  have hfind : (c.active.toList.find? fun r => r.matches q) = none := by
    refine List.find?_eq_none.2 fun r hr hm => ?_
    obtain ⟨k, hk, rfl⟩ := List.getElem_of_mem hr
    exact h ⟨k, by rwa [Vector.length_toList] at hk⟩ ((ClassRule.matches_iff _ q).1 hm)
  simp only [Cls.classify, hfind]

end

/-- Settles O50: matching is R157's conditions, and the search stops at the first rule that meets them. -/
theorem firstMatchingRuleGivesTheClass : Obligations.FirstMatchingRuleGivesTheClass :=
  fun _ _ => ⟨fun _ => Cls.classify_first, Cls.classify_none⟩

end Sys2Proof.Machine

namespace Sys2Proof.Machine

/-! ### The checks of R152 -/

theorem highNibble_eq_zero_iff (b : Byte) : b &&& 0xF0 = 0 ↔ b.toNat ≤ 15 := by
  revert b
  decide

/-- A flag byte of 4 bits announces both gross bounds when it is 12 or more. -/
theorem grossBits_eq {b : Byte} (h : b.toNat ≤ 15) : (b.getLsbD 2 && b.getLsbD 3) = decide (12 ≤ b.toNat) := by
  revert b
  decide

theorem grossCheck_iff {b : Byte} (h : b.toNat ≤ 15) (lo hi : Nat) :
    (b.getLsbD 2 && b.getLsbD 3 && decide (hi < lo)) = false ↔ (12 ≤ b.toNat → lo ≤ hi) := by
  rw [grossBits_eq h, Bool.and_eq_false_imp, decide_eq_true_eq, decide_eq_false_iff_not, Nat.not_lt]

/-- R152's conditions on a CLASS_WRITE payload. -/
structure ImageSound (p : List Byte) : Prop where
  length_ge : 15 ≤ p.length
  length_eq : p.length = 15 + 4 * imageW p + imageP p
  index_le : u8 p 0 ≤ 31
  flags_le : u8 p 1 ≤ 15
  code_pos : 1 ≤ u8 p 2
  code_le : u8 p 2 ≤ 63
  axMin_pos : 1 ≤ u8 p 3
  axMin_le : u8 p 3 ≤ u8 p 4
  axMax_le : u8 p 4 ≤ 31
  gross_le : 12 ≤ u8 p 1 → u32 p 5 ≤ u32 p 9
  windows_le : imageW p ≤ 11
  ordered : ∀ w ∈ imageWindows p, w.1 ≤ w.2
  sizes_pos : ∀ k ∈ imageSizes p, 1 ≤ k
  sum_le : (imageSizes p).sum ≤ 12

theorem ImageSound.sizes_le {p : List Byte} (h : ImageSound p) : imageP p ≤ 12 ∧ ∀ k ∈ imageSizes p, k ≤ 12 := by
  have hlen : (imageSizes p).length = imageP p := by simp only [imageSizes, List.length_map, List.length_range]
  have hcount := List.length_le_sum_of_one_le (imageSizes p) h.sizes_pos
  exact ⟨by have := h.sum_le; omega, fun k hk => (List.le_sum_of_mem hk).trans h.sum_le⟩

/-- The model's checks are R152's: with no size 0, the sum bounds the sizes and their number. -/
theorem classWriteValid_iff (p : List Byte) : classWriteValid p = true ↔ ImageSound p := by
  simp only [classWriteValid, Bool.and_eq_true, decide_eq_true_eq, Bool.not_eq_true', List.all_eq_true,
    highNibble_eq_zero_iff]
  constructor
  · rintro ⟨⟨⟨⟨⟨⟨⟨⟨hge, hlen⟩, hi⟩, hf⟩, hc, hc'⟩, ⟨⟨⟨hax, -⟩, -⟩, hax'⟩, hle⟩, hg⟩, hw, hws⟩, ⟨-, hk⟩, hsum⟩
    exact ⟨hge, hlen, hi, hf, hc, hc', hax, hle, hax', (grossCheck_iff hf _ _).1 hg, hw, hws, fun k h => (hk k h).1, hsum⟩
  · intro h
    obtain ⟨hp, hk⟩ := h.sizes_le
    obtain ⟨hge, hlen, hi, hf, hc, hc', hax, hle, hax', hg, hw, hws, hpos, hsum⟩ := h
    exact ⟨⟨⟨⟨⟨⟨⟨⟨hge, hlen⟩, hi⟩, hf⟩, hc, hc'⟩, ⟨⟨⟨hax, by omega⟩, by omega⟩, hax'⟩, hle⟩, (grossCheck_iff hf _ _).2 hg⟩,
      hw, hws⟩, ⟨hp, fun k h => ⟨hpos k h, hk k h⟩⟩, hsum⟩

/-! ### The rule image reads back (section 8.2) -/

theorem u8_append_right {a : List Byte} {n : Nat} (h : a.length = n) (b : List Byte) (k : Nat) :
    u8 (a ++ b) (n + k) = u8 b k := by
  rw [u8, List.getD_append_right _ _ _ _ (h ▸ Nat.le_add_right n k), h, Nat.add_sub_cancel_left, u8]

/-- The bytes of the spacing windows. -/
def windowBytes (ws : List (Nat × Nat)) : List Byte := ws.flatMap fun (lo, hi) => bytes2 lo ++ bytes2 hi

theorem windowBytes_length (ws : List (Nat × Nat)) : (windowBytes ws).length = 4 * ws.length :=
  length_flatMap_of_blocks (m := 4) (fun _ => rfl) ws

/-- The spacing windows of a payload stand in their places (section 8.2). -/
theorem windowBytes_read {ws : List (Nat × Nat)} (h : ∀ w ∈ ws, w.1 < 65536 ∧ w.2 < 65536) (q : List Byte) :
    ((List.range ws.length).map fun j => (u16 (windowBytes ws ++ q) (4 * j), u16 (windowBytes ws ++ q) (4 * j + 2))) = ws := by
  induction ws with
  | nil => rfl
  | cons w ws ih =>
    obtain ⟨hlo, hhi⟩ := h w List.mem_cons_self
    have hfirst : (u16 (windowBytes (w :: ws) ++ q) 0, u16 (windowBytes (w :: ws) ++ q) 2) = w :=
      Prod.ext (u16_bytes2 w.1 hlo (bytes2 w.2 ++ (windowBytes ws ++ q))) (u16_bytes2 w.2 hhi (windowBytes ws ++ q))
    rw [List.length_cons, List.range_succ_eq_map, List.map_cons, List.map_map]
    exact congrArg₂ List.cons hfirst (ih fun v hv => h v (List.mem_cons_of_mem w hv))

theorem sizeBytes_read {sizes : List Nat} (h : ∀ k ∈ sizes, k < 256) :
    ((List.range sizes.length).map fun j => u8 (sizes.map byte) j) = sizes := by
  induction sizes with
  | nil => rfl
  | cons k sizes ih =>
    have hfirst : u8 ((k :: sizes).map byte) 0 = k :=
      (byte_toNat k).trans (Nat.mod_eq_of_lt (h k List.mem_cons_self))
    rw [List.length_cons, List.range_succ_eq_map, List.map_cons, List.map_map]
    exact congrArg₂ List.cons hfirst (ih fun n hn => h n (List.mem_cons_of_mem k hn))

/-- The group sizes of a rule, none without a pattern. -/
def ClassRule.sizes (r : ClassRule) : List Nat := r.pattern.getD []

section
variable (r : ClassRule) (b : Byte)

theorem ClassRule.image_length : (b :: r.image).length = 15 + 4 * r.windows.length + r.sizes.length := by
  have hlen : (b :: r.image).length = 15 + (windowBytes r.windows ++ r.sizes.map byte).length := by
    rw [Nat.add_comm, ClassRule.image, List.append_assoc]
    rfl
  rw [hlen, List.length_append, windowBytes_length, List.length_map, Nat.add_assoc]

/-- The windows and the sizes stand behind the 15 bytes of fixed length. -/
theorem ClassRule.u8_image (k : Nat) :
    u8 (b :: r.image) (15 + k) = u8 (windowBytes r.windows ++ r.sizes.map byte) k := by
  rw [Nat.add_comm, ClassRule.image, List.append_assoc]
  rfl

theorem ClassRule.u16_image (k : Nat) :
    u16 (b :: r.image) (15 + k) = u16 (windowBytes r.windows ++ r.sizes.map byte) k := by
  rw [u16, Nat.add_assoc, r.u8_image, r.u8_image, u16]

/-- The flag byte of an image uses its four low bits, and is 12 or more only with both gross bounds. -/
theorem ClassRule.image_flags : u8 (b :: r.image) 1 ≤ 15 ∧
    (12 ≤ u8 (b :: r.image) 1 → r.grossMin.isSome = true ∧ r.grossMax.isSome = true) := by
  have h0 := r.valid.toNat_le
  have h1 := r.straddle.toNat_le
  have h2 := r.grossMin.isSome.toNat_le
  have h3 := r.grossMax.isSome.toNat_le
  have hflags : u8 (b :: r.image) 1 =
      (r.valid.toNat + 2 * r.straddle.toNat + 4 * r.grossMin.isSome.toNat + 8 * r.grossMax.isSome.toNat) % 256 := by
    refine (byte_toNat _).trans ?_
    simp only [bit_eq_mul, Nat.one_mul]
  rw [hflags, ← Bool.toNat_eq_one, ← Bool.toNat_eq_one]
  omega

theorem ClassRule.image_flag_bits : ((b :: r.image).getD 1 0).getLsbD 0 = r.valid ∧
    ((b :: r.image).getD 1 0).getLsbD 1 = r.straddle ∧ ((b :: r.image).getD 1 0).getLsbD 2 = r.grossMin.isSome ∧
    ((b :: r.image).getD 1 0).getLsbD 3 = r.grossMax.isSome := by
  have h0 := r.valid.toNat_le
  have h1 := r.straddle.toNat_le
  have h2 := r.grossMin.isSome.toNat_le
  have h3 := r.grossMax.isSome.toNat_le
  refine ⟨?_, ?_, ?_, ?_⟩
  all_goals exact byte_getLsbD_eq (by decide) (by simp only [bit_eq_mul, Nat.reducePow]; omega)

end

section
variable {r : ClassRule} (h : r.legal) (b : Byte)
include h

/-- A legal rule has up to 12 group sizes, none of them 0. -/
theorem ClassRule.legal_sizes : r.sizes.length ≤ 12 ∧ r.sizes.sum ≤ 12 ∧ ∀ k ∈ r.sizes, 1 ≤ k ∧ k ≤ 12 := by
  obtain ⟨-, -, -, -, -, -, -, -, -, -, hpattern⟩ := h
  have hsizes : r.sizes.sum ≤ 12 ∧ ∀ k ∈ r.sizes, 1 ≤ k := by
    rw [ClassRule.sizes]
    cases hp : r.pattern with
    | none => exact ⟨Nat.zero_le _, nofun⟩
    | some sizes => exact (hpattern sizes hp).2
  obtain ⟨hsum, hpos⟩ := hsizes
  exact ⟨(List.length_le_sum_of_one_le _ hpos).trans hsum, hsum, fun k hk => ⟨hpos k hk, (List.le_sum_of_mem hk).trans hsum⟩⟩

/-- A legal rule's pattern is what its sizes say: a pattern names at least one group. -/
theorem ClassRule.legal_pattern : (if r.sizes.length = 0 then none else some r.sizes) = r.pattern := by
  obtain ⟨-, -, -, -, -, -, -, -, -, -, hpattern⟩ := h
  rw [ClassRule.sizes]
  cases hp : r.pattern with
  | none => rfl
  | some sizes => exact if_neg fun hlen => (hpattern sizes hp).1 (List.length_eq_zero_iff.1 hlen)

theorem ClassRule.legal_windows : r.windows.length ≤ 11 ∧ ∀ w ∈ r.windows, w.1 < 65536 ∧ w.2 < 65536 := by
  obtain ⟨-, -, -, -, -, -, -, -, hlen, hw, -⟩ := h
  exact ⟨hlen, fun w hm => ⟨(hw w hm).1.trans_lt (hw w hm).2, (hw w hm).2⟩⟩

theorem ClassRule.image_numbers :
    u8 (b :: r.image) 2 = r.code ∧ u8 (b :: r.image) 3 = r.axMin ∧ u8 (b :: r.image) 4 = r.axMax := by
  obtain ⟨-, hc, -, hle, hax, -⟩ := h
  refine ⟨(byte_toNat _).trans ?_, (byte_toNat _).trans ?_, (byte_toNat _).trans ?_⟩
  all_goals omega

/-- The gross bounds of an image, 0 for an absent one. -/
theorem ClassRule.image_gross :
    u32 (b :: r.image) 5 = r.grossMin.getD 0 ∧ u32 (b :: r.image) 9 = r.grossMax.getD 0 := by
  obtain ⟨-, -, -, -, -, hmin, hmax, -⟩ := h
  have hread {g : Option Nat} (hg : ∀ n, g = some n → n < 4294967296) : u32 (bytes4 (g.getD 0) ++ []) 0 = g.getD 0 := by
    refine u32_bytes4 _ ?_ []
    cases hn : g with
    | none => decide
    | some n => exact hg n hn
  exact ⟨hread hmin, hread hmax⟩

theorem ClassRule.imageW_image : imageW (b :: r.image) = r.windows.length := by
  obtain ⟨hlen, -⟩ := legal_windows h
  exact (byte_toNat _).trans (Nat.mod_eq_of_lt (by omega))

theorem ClassRule.imageP_image : imageP (b :: r.image) = r.sizes.length := by
  obtain ⟨hlen, -⟩ := legal_sizes h
  exact (byte_toNat _).trans (Nat.mod_eq_of_lt (Nat.lt_of_le_of_lt hlen (by decide)))

theorem ClassRule.imageWindows_image : imageWindows (b :: r.image) = r.windows := by
  obtain ⟨-, hw⟩ := legal_windows h
  rw [imageWindows, imageW_image h]
  refine Eq.trans (List.map_congr_left fun j _ => ?_) (windowBytes_read hw (r.sizes.map byte))
  rw [r.u16_image, show 17 + 4 * j = 15 + (4 * j + 2) by omega, r.u16_image]

theorem ClassRule.imageSizes_image : imageSizes (b :: r.image) = r.sizes := by
  obtain ⟨-, -, hk⟩ := legal_sizes h
  rw [imageSizes, imageP_image h, imageW_image h]
  refine Eq.trans (List.map_congr_left fun j _ => ?_) (sizeBytes_read fun k hm => (hk k hm).2.trans_lt (by decide))
  rw [Nat.add_assoc, r.u8_image, u8_append_right (windowBytes_length r.windows)]

/-- The image of a legal rule is read back as that rule (R151, R154). -/
theorem ClassRule.imageRule_image : imageRule (b :: r.image) = r := by
  obtain ⟨hvalid, hstraddle, hmin, hmax⟩ := r.image_flag_bits b
  obtain ⟨hcode, haxMin, haxMax⟩ := image_numbers h b
  obtain ⟨hlo, hhi⟩ := image_gross h b
  have hbound (g : Option Nat) : (if g.isSome = true then some (g.getD 0) else none) = g := by cases g <;> rfl
  simp only [imageRule, hvalid, hstraddle, hmin, hmax, hcode, haxMin, haxMax, hlo, hhi, hbound, imageWindows_image h,
    imageP_image h, imageSizes_image h, legal_pattern h]

/-- The image of a legal rule passes the checks of R152 behind an index of a rule. -/
theorem ClassRule.image_sound (hb : b.toNat ≤ 31) : ImageSound (b :: r.image) := by
  obtain ⟨hcode, haxMin, haxMax⟩ := image_numbers h b
  obtain ⟨hlo, hhi⟩ := image_gross h b
  obtain ⟨hflags, hboth⟩ := r.image_flags b
  obtain ⟨-, hsum, hsizes⟩ := legal_sizes h
  have hlen := r.image_length b
  have hW := imageW_image h b
  have hP := imageP_image h b
  have hws := imageWindows_image h b
  have hps := imageSizes_image h b
  obtain ⟨hc, hc', hax, hle, hax', -, -, hg, hw, hw', -⟩ := h
  have hgross (h12 : 12 ≤ u8 (b :: r.image) 1) : r.grossMin.getD 0 ≤ r.grossMax.getD 0 := by
    obtain ⟨hmin, hmax⟩ := hboth h12
    obtain ⟨lo, hmin⟩ := Option.isSome_iff_exists.1 hmin
    obtain ⟨hi, hmax⟩ := Option.isSome_iff_exists.1 hmax
    rw [hmin, hmax]
    exact hg lo hi hmin hmax
  exact
    { length_ge := by omega
      length_eq := by rw [hW, hP, hlen]
      index_le := hb
      flags_le := hflags
      code_pos := hcode ▸ hc
      code_le := hcode ▸ hc'
      axMin_pos := haxMin ▸ hax
      axMin_le := haxMin ▸ haxMax ▸ hle
      axMax_le := haxMax ▸ hax'
      gross_le := fun h12 => by rw [hlo, hhi]; exact hgross h12
      windows_le := hW ▸ hw
      ordered := fun w hm => (hw' w (hws ▸ hm)).1
      sizes_pos := fun k hk => (hsizes k (hps ▸ hk)).1
      sum_le := hps ▸ hsum }

end

/-! ### The four commands (R151, R153 to R155) -/

section
variable {s : State} {p : List Byte}

theorem State.withCls_withShadow (s : State) (b : Vector ClassRule 32) :
    s.withCls (s.cls.withShadow b) = shadowReplaced s b := by
  have hcls : s.cls.withShadow b = { s.cls with
      bank0 := if s.cls.active1 then b else s.cls.bank0
      bank1 := if s.cls.active1 then s.cls.bank1 else b } := by
    rw [Cls.withShadow]
    split <;> rfl
  rw [hcls, State.withCls, shadowReplaced]

/-- CLASS_WRITE of a legal rule's image puts the rule into the shadow bank (R151). -/
theorem classWrite_image (i : Fin 32) {r : ClassRule} (h : r.legal) : classWrite (byte i.val :: r.image) s =
    accept (byte i.val :: bytes2 s.cls.generation) (shadowReplaced s (s.cls.shadow.set i r)) := by
  have hi : (byte i.val).toNat = i.val := (byte_toNat _).trans (Nat.mod_eq_of_lt (by omega))
  have hvalid := (classWriteValid_iff _).2 (ClassRule.image_sound h (byte i.val) (by omega))
  simp only [classWrite, u8_head, hi, index_val, hvalid, if_true, ClassRule.imageRule_image h, State.withCls_withShadow]
  rfl

theorem classWrite_unsound (h : ¬ ImageSound p) : classWrite p s = refuse .badValue s := by
  have hinvalid : ¬ classWriteValid p = true := fun hv => h ((classWriteValid_iff p).1 hv)
  rw [classWrite]
  split
  · rw [if_neg hinvalid]
  · rfl

theorem whenEmpty_empty (run : Reply × State) : whenEmpty [] s run = run := if_pos rfl

theorem whenEmpty_bad (h : p ≠ []) (run : Reply × State) : whenEmpty p s run = refuse .badValue s := if_neg h

theorem classRead_rule (sel : Byte) (hsel : sel.toNat ≤ 1) (i : Fin 32) : classRead [sel, byte i.val] s =
    accept ([sel, byte i.val] ++ bytes2 s.cls.generation ++ (if sel = 0 then s.cls.active else s.cls.shadow)[i].image) s := by
  have hi : (byte i.val).toNat = i.val := (byte_toNat _).trans (Nat.mod_eq_of_lt (by omega))
  simp only [classRead, hi, index_val, if_neg (Nat.not_lt.2 hsel)]

theorem classRead_bad (h : p.length ≠ 2 ∨ 1 < u8 p 0 ∨ 31 < u8 p 1) : classRead p s = refuse .badValue s := by
  match p with
  | [sel, idx] =>
    have hbad : 1 < sel.toNat ∨ 32 ≤ idx.toNat := h.resolve_left (not_not.2 rfl)
    rw [classRead]
    rcases hbad with hsel | hidx
    · simp only [if_pos hsel]
      split <;> rfl
    · simp only [index_of_le hidx]
  | [] | [_] | _ :: _ :: _ :: _ => rfl

/-- The generation advances, 65535 to 0 (R155). -/
theorem Cls.swapped_eq (c : Cls) : c.swapped = { c with
    active1 := !c.active1
    generation := if c.generation % 65536 = 65535 then 0 else c.generation % 65536 + 1 } := by
  have hnext : (c.generation + 1) % 65536 = if c.generation % 65536 = 65535 then 0 else c.generation % 65536 + 1 := by
    split <;> omega
  rw [Cls.swapped, hnext]

end

/-- Settles O49: a legal rule's image reads back as the rule, every other payload fails a check of R152, and the other three
commands act on the banks as wholes. -/
theorem classCommandsEditTheShadowBank : Obligations.ClassCommandsEditTheShadowBank := by
  intro s x hx shadow active g
  refine ⟨fun i r h => ?_, fun p hbad => ?_, ?_, fun i => ⟨?_, ?_⟩, fun p hp => ⟨?_, ?_⟩, fun p hp => ?_, ?_⟩
  · exact addressedCommand_answers hx (classWrite_image i h)
  · refine addressedCommand_refuses hx (classWrite_unsound fun h => ?_)
    obtain ⟨hge, hlen, hi, hf, hc, hc', hax, hle, hax', hg, hw, hws, hpos, hsum⟩ := h
    simp only [imageWindows, imageSizes, imageW, imageP, List.forall_mem_map, List.mem_range] at hlen hw hws hpos hsum
    have hordered : ¬ ∃ j < u8 p 13, u16 p (17 + 4 * j) < u16 p (15 + 4 * j) :=
      fun ⟨j, hj, hlt⟩ => Nat.not_lt.2 (hws j hj) hlt
    have hnonzero : ¬ ∃ j < u8 p 14, u8 p (15 + 4 * u8 p 13 + j) = 0 :=
      fun ⟨j, hj, hzero⟩ => Nat.one_ne_zero (Nat.le_zero.1 (hzero ▸ hpos j hj))
    simp only [hordered, hnonzero, false_or] at hbad
    omega
  · refine addressedCommand_answers hx ((whenEmpty_empty _).trans ?_)
    rw [State.withCls_withShadow]
    rfl
  · exact addressedCommand_answers hx (classRead_rule 0 (by decide) i)
  · exact addressedCommand_answers hx (classRead_rule 1 (by decide) i)
  · exact addressedCommand_refuses hx (whenEmpty_bad hp _)
  · exact addressedCommand_refuses hx (whenEmpty_bad hp _)
  · exact addressedCommand_refuses hx (classRead_bad hp)
  · refine addressedCommand_answers hx ((whenEmpty_empty _).trans ?_)
    rw [Cls.swapped_eq]
    rfl

end Sys2Proof.Machine

namespace Sys2Proof.Machine

/-! ### DEVICE_RESET (R184, R212) -/

/-- A store completes between its two bounds only (R190). -/
theorem State.storeDue_some {s : State} {start : Time} (h : s.cst.store = some start) : s.storeDue =
    decide (480 ≤ (s.siteTime - start).toNat ∧ (s.siteTime - start).toNat ≤ 1440) := by
  simp only [State.storeDue, h, Bool.decide_and]
  rfl

section
variable {s : State}

theorem State.cutStore_none (h : s.cst.store = none) (cut : StoreCut) : s.cutStore cut = s.cst.nv := by
  simp only [State.cutStore, h, Option.isSome_none, Bool.false_eq_true, if_false]

/-- A store cut before its record write has touched the spare slot alone (R184). -/
theorem State.cutStore_recordAsItWas (h : s.cst.store.isSome = true) (bytes : List Byte) :
    s.cutStore (.recordAsItWas bytes) = s.cst.nv.writeSpare bytes := by
  simp only [State.cutStore, h, if_true]

theorem State.cutStore_recordWritten (h : s.cst.store.isSome = true) (readBack : List Byte) :
    s.cutStore (.recordWritten readBack) = if s.storeDue then s.cst.nv.stored readBack s.cst.staging.crc
      else s.cst.nv.writeSpare (readBack ++ bytes2 s.cst.staging.crc.toNat) := by
  simp only [State.cutStore, h, if_true]
  rfl

end

/-- The default frame, slot by slot (R42, R207). -/
theorem defaultFrame_len (n : Fin 4) (k : Nat) : (defaultFrame[n].len : Int) = paramDefault (.slotLen n) k := by
  fin_cases n <;> rfl

theorem defaultFrame_rule (n : Fin 4) (k : Nat) : (defaultFrame[n].rule.code : Int) = paramDefault (.slotRule n) k := by
  fin_cases n <;> rfl

/-- Every parameter of the reset state stands at its default (R207, R212). -/
theorem State.reset_paramValue (p : Param) {k : Nat} (hk : k < (paramScope p).size) :
    State.reset.paramValue p k = paramDefault p k := by
  have hlane : State.reset.par.lane[Fin.ofNat 4 k] = LanePar.default (Fin.ofNat 4 k) := Par.reset_lane _
  have hprobe : State.reset.ptu.probe[Fin.ofNat 4 k] = ProbeUnit.reset := Ptu.reset_probe _
  cases p with
  | tOn | tOff | nb | noiseLim | wLr | spdtol | maxsp | maxclose | rdt => simp only [State.paramValue, hlane]; rfl
  | probeMap =>
    have hmap : State.reset.paramValue .probeMap k = ((Fin.ofNat 4 k).val : Int) := by
      simp only [State.paramValue, hlane]; rfl
    exact hmap.trans (congrArg Int.ofNat (Nat.mod_eq_of_lt hk))
  | enable =>
    have hshu : State.reset.shu[Fin.ofNat 16 k] = Health.reset := State.atReset_shu _ _ _ _ _
    simp only [State.paramValue, hshu]; rfl
  | straddleEn =>
    have hstraddle : State.reset.par.straddleEn[Fin.ofNat 3 k] = true := Vector.getElem_replicate _
    simp only [State.paramValue, hstraddle]; rfl
  | probeEn | hotTo | hotTh | hotMode | coldTo | coldTh | coldMode => simp only [State.paramValue, hprobe]; rfl
  | azl | azTol | azStep | grp | tempHold | testLimit | testPeriod | missLim | holdoff | attnMask => rfl
  | slotLen n => exact defaultFrame_len n k
  | slotRule n => exact defaultFrame_rule n k

/-- Settles O13: the reset takes the reset state as a whole, and the memory by the moment at which the store was cut. -/
theorem deviceResetRestoresResetValues : Obligations.DeviceResetRestoresResetValues := by
  refine ⟨fun s straps cut => ⟨s.cutStore cut, rfl, fun h => s.cutStore_none h cut, ?_⟩,
    fun p k hk => State.reset_paramValue p hk⟩
  intro old asItWas spare
  have hspare (bytes : List Byte) : old.writeSpare bytes = spare bytes := Nonvolatile.writeSpare_eq old bytes
  have hold (bytes : List Byte) : s.cutStore cut = old.writeSpare bytes → asItWas := fun h => by
    show _ ∧ _
    rw [h]
    exact old.writeSpare_record bytes
  refine ⟨fun bytes hs hcut => ?_, fun start readBack hs hcut => ?_⟩
  · have hnv : s.cutStore cut = old.writeSpare bytes := hcut ▸ s.cutStore_recordAsItWas hs bytes
    exact ⟨hnv.trans (hspare bytes), hold bytes hnv⟩
  · intro ran image
    have hnv := hcut ▸ State.cutStore_recordWritten (Option.isSome_of_eq_some hs) readBack
    rw [State.storeDue_some hs] at hnv
    refine ⟨fun hout => hold image (hnv.trans (if_neg ?_)), fun hmin hmax hcrc => ?_, fun hmin hmax hcrc => ?_⟩
    · rw [decide_eq_true_eq]; omega
    · exact (hnv.trans (if_pos (decide_eq_true ⟨hmin, hmax⟩))).trans (old.stored_success hcrc)
    · exact (hnv.trans (if_pos (decide_eq_true ⟨hmin, hmax⟩))).trans (old.stored_failure hcrc)

end Sys2Proof.Machine

namespace Sys2Proof.Machine

/-! ### Numbers and fields of a payload (R200) -/

theorem byte_toNat_of_lt {n : Nat} (h : n < 256) : (byte n).toNat = n := (byte_toNat n).trans (Nat.mod_eq_of_lt h)

theorem lt_of_index {n k : Nat} {i : Fin n} (h : index n k = some i) : k < n := by
  by_contra hk
  rw [index_of_le (Nat.le_of_not_lt hk)] at h
  cases h

theorem le_of_index {n k : Nat} (h : index n k = none) : n ≤ k := by
  by_contra hk
  rw [index, dif_pos (Nat.lt_of_not_le hk)] at h
  cases h

theorem u16_cons (b : Byte) (p : List Byte) (k : Nat) : u16 (b :: p) (k + 1) = u16 p k := by
  rw [u16, u16, u8_cons, u8_cons]

theorem s16_cons (b : Byte) (p : List Byte) (k : Nat) : s16 (b :: p) (k + 1) = s16 p k := by rw [s16, s16, u16_cons]

/-- A signed 16-bit number reads back (R200). -/
theorem s16_signed2 {v : Int} (h : -32768 ≤ v) (h' : v ≤ 32767) : s16 (signed2 v) 0 = v := by
  have hread : u16 (signed2 v) 0 = (BitVec.ofInt 16 v).toNat := u16_bytes2 _ (BitVec.isLt _) []
  rw [s16, hread, BitVec.ofNat_toNat, BitVec.setWidth_eq, BitVec.toInt_ofInt]
  exact Int.bmod_eq_of_le (by omega) (by omega)

/-- The two bytes at an offset. -/
def fieldAt (p : List Byte) (o : Nat) : List Byte := (p.drop o).take 2

theorem u8_drop (p : List Byte) (o k : Nat) : u8 (p.drop o) k = u8 p (o + k) := by
  simp only [u8, List.getD_eq_getElem?_getD, List.getElem?_drop]

theorem u16_fieldAt (p : List Byte) (o : Nat) : u16 (fieldAt p o) 0 = u16 p o := by
  rw [fieldAt, u16_take (by decide), u16, u16, u8_drop, u8_drop]
  rfl

theorem u16_of_fieldAt {p : List Byte} {o n : Nat} (h : fieldAt p o = bytes2 n) (hn : n < 65536) : u16 p o = n := by
  rw [← u16_fieldAt, h]
  exact u16_bytes2 n hn []

theorem s16_of_fieldAt {p : List Byte} {o : Nat} {z : Int} (h : fieldAt p o = signed2 z) (hz : -32768 ≤ z) (hz' : z ≤ 32767) :
    s16 p o = z := by
  rw [s16, ← u16_fieldAt, h]
  exact s16_signed2 hz hz'

/-- A field within a block is that field of the whole. -/
theorem fieldAt_of_block {p block : List Byte} {start len : Nat} (h : (p.drop start).take len = block) {o : Nat}
    (ho : o + 2 ≤ len) : fieldAt p (start + o) = fieldAt block o := by
  rw [fieldAt, fieldAt, ← h, List.drop_take, List.take_take, List.drop_drop, Nat.min_eq_left (by omega)]

/-! ### The items and the image of a copy (R182) -/

theorem StripCal.gains_length (v : StripCal) : (v.k.toList.flatMap bytes2).length = 18 := by
  rw [length_flatMap_of_blocks bytes2_length, Vector.length_toList]

theorem StripCal.bytes_length (v : StripCal) : v.bytes.length = 20 := by
  rw [StripCal.bytes, List.length_append, StripCal.gains_length]
  rfl

theorem LaneCal.bytes_length (v : LaneCal) : v.bytes.length = 4 := rfl

theorem StripCal.fieldAt_k (v : StripCal) (j : Fin 9) : fieldAt v.bytes (2 * j.val) = bytes2 v.k[j] :=
  block_of_flatMap bytes2_length (by rw [Vector.length_toList]; exact j.isLt) _

theorem StripCal.fieldAt_z (v : StripCal) : fieldAt v.bytes 18 = signed2 v.z := by
  rw [fieldAt, StripCal.bytes, List.drop_left' v.gains_length]
  rfl

theorem LaneCal.fieldAt_spacing (v : LaneCal) : fieldAt v.bytes 0 = bytes2 v.spacing := rfl

theorem LaneCal.fieldAt_trim (v : LaneCal) : fieldAt v.bytes 2 = signed2 v.trim := rfl

section
variable (c : CalSet)

theorem CalSet.stripBytes_length : (c.strip.toList.flatMap StripCal.bytes).length = 320 := by
  rw [length_flatMap_of_blocks StripCal.bytes_length, Vector.length_toList]

theorem CalSet.bytes_length : c.bytes.length = 336 := by
  rw [CalSet.bytes, List.length_append, c.stripBytes_length, length_flatMap_of_blocks LaneCal.bytes_length,
    Vector.length_toList]

theorem CalSet.bytes_strip (i : Strip) : (c.bytes.drop (20 * i.val)).take 20 = c.strip[i].bytes :=
  block_of_flatMap StripCal.bytes_length (by rw [Vector.length_toList]; exact i.isLt) _

theorem CalSet.bytes_lane (m : Lane) : (c.bytes.drop (320 + 4 * m.val)).take 4 = c.lane[m].bytes := by
  rw [CalSet.bytes, ← List.drop_drop, List.drop_left' c.stripBytes_length,
    ← List.append_nil (c.lane.toList.flatMap LaneCal.bytes)]
  exact block_of_flatMap LaneCal.bytes_length (by rw [Vector.length_toList]; exact m.isLt) []

end

/-- A strip's item reads back (R187). -/
theorem stripItem_bytes {v : StripCal} (hk : ∀ j : Fin 9, v.k[j] < 65536) (hz : -32768 ≤ v.z) (hz' : v.z ≤ 32767) :
    stripItem v.bytes 0 = v := by
  have hgains : (stripItem v.bytes 0).k = v.k := Vector.ext fun j hj => by
    rw [stripItem_k _ _ hj, Nat.zero_add]
    exact u16_of_fieldAt (v.fieldAt_k ⟨j, hj⟩) (hk ⟨j, hj⟩)
  have hzero : (stripItem v.bytes 0).z = v.z := s16_of_fieldAt v.fieldAt_z hz hz'
  show StripCal.mk (stripItem v.bytes 0).k (stripItem v.bytes 0).z = v
  rw [hgains, hzero]

/-- A lane's item reads back (R187). -/
theorem laneItem_bytes {v : LaneCal} (hs : v.spacing < 65536) (ht : -512 ≤ v.trim) (ht' : v.trim ≤ 511) :
    laneItem v.bytes 0 = v := by
  have hspacing : u16 v.bytes 0 = v.spacing := u16_of_fieldAt v.fieldAt_spacing hs
  have htrim : s16 v.bytes 2 = v.trim := s16_of_fieldAt v.fieldAt_trim (by omega) (by omega)
  rw [laneItem, hspacing, htrim]

/-- The gains of an item by their numbers (R182). -/
theorem StripCal.bytes_eq (v : StripCal) :
    v.bytes = (List.range 9).flatMap (fun j => bytes2 (v.k.toList.getD j 0)) ++ signed2 v.z := by
  have hgains : (List.range 9).map (fun j => v.k.toList.getD j 0) = v.k.toList :=
    List.ext_getElem (by simp) fun j _ hj => by rw [List.getElem_map, List.getElem_range, List.getD_eq_getElem _ _ hj]
  exact congrArg (· ++ signed2 v.z) ((congrArg (List.flatMap bytes2) hgains.symm).trans (List.flatMap_map ..))

/-! ### CRC-16 (R183) -/

theorem crc16_append (bytes : List Byte) (b : Byte) : crc16 (bytes ++ [b]) = crc16Byte (crc16 bytes) b :=
  List.foldl_append

/-- A shift tests the register's uppermost bit (R183). -/
theorem crc16Shift_eq : crc16Shift = fun r => if r.getLsbD 15 then (r <<< 1) ^^^ 0x1021 else r <<< 1 := by
  funext r
  rw [crc16Shift, BitVec.msb_eq_getLsbD_last]

/-! ### What R186 refuses -/

/-- R186 refuses with this status: the switch is open, or it is closed and a store is in flight. -/
def State.locked (s : State) (st : Status) : Prop :=
  (s.cst.closed = false ∧ st = .calLocked) ∨ (s.cst.closed = true ∧ s.cst.store.isSome = true ∧ st = .busy)

section
variable {s : State}

theorem State.locked_of (h : s.cst.closed = false ∨ s.cst.store.isSome = true) : ∃ st, s.locked st := by
  cases hc : s.cst.closed with
  | false => exact ⟨.calLocked, .inl ⟨hc, rfl⟩⟩
  | true => exact ⟨.busy, .inr ⟨hc, h.resolve_left (by rw [hc]; decide), rfl⟩⟩

theorem whenUnlocked_locked {st : Status} (h : s.locked st) (run : Reply × State) :
    whenUnlocked s run = refuse st s := by
  obtain ⟨hc, rfl⟩ | ⟨hc, hs, rfl⟩ := h
  · simp only [whenUnlocked, hc, Bool.not_false, if_true]
  · simp only [whenUnlocked, hc, hs, Bool.not_true, Bool.false_eq_true, if_false, if_true]

end

/-! ### CAL_WRITE and CAL_LOAD (R187, R188) -/

section
variable {s : State} {p : List Byte} (hc : s.cst.closed = true) (hs : s.cst.store = none)
include hc hs

theorem calWrite_strip (i : Strip) {v : StripCal} (hk : ∀ j : Fin 9, v.k[j] < 65536) (hz : -32768 ≤ v.z)
    (hz' : v.z ≤ 32767) : calWrite (byte i.val :: v.bytes) s =
      acceptStage (byte i.val) { s.cst.staging with strip := s.cst.staging.strip.set i v } s := by
  have hi : (byte i.val).toNat = i.val := byte_toNat_of_lt (by omega)
  rw [calWrite, whenUnlocked_open hc hs]
  simp only [hi, index_val, StripCal.bytes_length, if_true, stripItem_bytes hk hz hz']
  rfl

theorem calWrite_lane (m : Lane) {v : LaneCal} (hsp : v.spacing < 65536) (ht : -512 ≤ v.trim) (ht' : v.trim ≤ 511) :
    calWrite (byte (16 + m.val) :: v.bytes) s =
      acceptStage (byte (16 + m.val)) { s.cst.staging with lane := s.cst.staging.lane.set m v } s := by
  have hm : (byte (16 + m.val)).toNat = 16 + m.val := byte_toNat_of_lt (by omega)
  have hnone : index 16 (16 + m.val) = none := index_of_le (Nat.le_add_right ..)
  have hsome : index 4 (16 + m.val - 16) = some m := by rw [Nat.add_sub_cancel_left]; exact index_val m
  have hvalid : v.bytes.length = 4 ∧ -512 ≤ v.trim ∧ v.trim ≤ 511 := ⟨rfl, ht, ht'⟩
  rw [calWrite, whenUnlocked_open hc hs]
  simp only [hm, hnone, hsome, laneItem_bytes hsp ht ht', if_pos hvalid]
  rfl

theorem calWrite_bad (h : p = [] ∨ 19 < u8 p 0 ∨ (u8 p 0 < 16 ∧ p.length ≠ 21) ∨ (16 ≤ u8 p 0 ∧ p.length ≠ 5) ∨
    (16 ≤ u8 p 0 ∧ (s16 p 3 < -512 ∨ 511 < s16 p 3))) : calWrite p s = refuse .badValue s := by
  refine (whenUnlocked_open hc hs _).trans ?_
  match p with
  | [] => rfl
  | target :: item =>
    have htrim : (laneItem item 0).trim = s16 (target :: item) 3 := (s16_cons target item 2).symm
    simp only [u8_head, List.length_cons, reduceCtorEq, false_or] at h
    dsimp only
    split
    next i _ hi =>
      have := lt_of_index hi
      exact if_neg (by omega)
    next m hi hm =>
      have := le_of_index hi
      have := lt_of_index hm
      exact if_neg (by rw [htrim]; omega)
    next => rfl

theorem calLoad_empty : calLoad [] s = accept (bytes2 (crc16 s.cst.working.bytes).toNat) (s.stage s.cst.working) :=
  (whenUnlocked_open hc hs _).trans (whenEmpty_empty _)

end

/-! ### CAL_READ (R189) -/

theorem CalSet.item_strip (c : CalSet) (i : Strip) : c.item (byte i.val).toNat = some c.strip[i].bytes := by
  have hi : (byte i.val).toNat = i.val := byte_toNat_of_lt (by omega)
  simp only [CalSet.item, hi, index_val]

theorem CalSet.item_lane (c : CalSet) (m : Lane) : c.item (byte (16 + m.val)).toNat = some c.lane[m].bytes := by
  have hm : (byte (16 + m.val)).toNat = 16 + m.val := byte_toNat_of_lt (by omega)
  have hnone : index 16 (16 + m.val) = none := index_of_le (Nat.le_add_right ..)
  simp only [CalSet.item, hm, hnone, Nat.add_sub_cancel_left, index_val]

theorem CalSet.item_crc (c : CalSet) : c.item 20 = some (bytes2 (crc16 c.bytes).toNat) := rfl

/-- CAL_READ answers an item behind the two selectors, the counter and the state byte. -/
theorem calRead_item {s : State} {sel target : Byte} {item : List Byte} (hsel : sel.toNat < 2)
    (h : (if sel = 0 then s.cst.working else s.cst.staging).item target.toNat = some item) : calRead [sel, target] s =
      accept ([sel, target] ++ bytes4 s.cst.counter ++ [s.cst.stateByte] ++ item) s := by
  simp only [calRead, if_neg (Nat.not_lt.2 (Nat.le_of_lt_succ hsel)), h]

/-! ### TRIM_STEP, addressed and broadcast (R195, R203) -/

section
variable {s : State} {x : Xfer} (p : List Byte)

/-- To the addressed node a TRIM_STEP is a command like any other. -/
theorem trimStep_addressed (h : s.taker x.addr = .addressed) :
    exec (.trimStep x p) s = addressedCommand 0x35 x p trimStep s :=
  congrArg Host.Outcome.next ((hostCommand_addressed _ _ _ _ _ _ h).trans (hostCommand_addressed _ _ _ _ _ _ h).symm)

theorem trimStep_broadcast (h : s.taker x.addr = .broadcast) :
    exec (.trimStep x p) s = .next (trimStep p s.release).2 :=
  congrArg Host.Outcome.next (hostCommand_broadcast _ _ _ _ _ _ h)

end

/-- Settles O52: items read back as they were written, a field of an item is a field of the image at the item's offset, and every
command that changes calibration passes R186 first. -/
theorem calibrationIsEditedInStaging : Obligations.CalibrationIsEditedInStaging := by
  refine ⟨?_, ?_, ?_, ⟨rfl, ?_⟩, ?_⟩
  · intro s x hx hc hs staged put
    refine ⟨fun i v hk hz hz' => ?_, fun m v hsp ht ht' => ?_, fun p hbad => ?_, ?_⟩
    · exact addressedCommand_answers hx (calWrite_strip (s := s.drive _) hc hs i hk hz hz')
    · exact addressedCommand_answers hx (calWrite_lane (s := s.drive _) hc hs m hsp ht ht')
    · exact addressedCommand_refuses hx (calWrite_bad (s := s.drive _) hc hs hbad)
    · exact addressedCommand_answers hx (calLoad_empty (s := s.drive _) hc hs)
  · intro s x sel hx hsel c top answer
    refine ⟨fun i => ?_, fun m => ?_, ?_⟩
    · rw [← StripCal.bytes_eq]
      exact addressedCommand_answers hx (calRead_item (s := s.drive _) hsel (c.item_strip i))
    · exact addressedCommand_answers hx (calRead_item (s := s.drive _) hsel (c.item_lane m))
    · exact addressedCommand_answers hx (calRead_item (s := s.drive _) hsel c.item_crc)
  · intro c field
    refine ⟨c.bytes_length, fun i => ⟨fun j => ?_, ?_⟩, fun m => ⟨?_, ?_⟩⟩
    · exact (fieldAt_of_block (c.bytes_strip i) (by omega)).trans (c.strip[i].fieldAt_k j)
    · exact (fieldAt_of_block (c.bytes_strip i) (by omega)).trans c.strip[i].fieldAt_z
    · exact (fieldAt_of_block (c.bytes_lane m) (o := 0) (by omega)).trans c.lane[m].fieldAt_spacing
    · exact (fieldAt_of_block (c.bytes_lane m) (o := 2) (by omega)).trans c.lane[m].fieldAt_trim
  · intro bytes b shift
    rw [crc16_append, crc16Byte, crc16Shift_eq]
    rfl
  · intro s x p st hx h refused
    have locked (run : Reply × State) {n : Nat} : whenUnlocked (s.drive n) run = refuse st (s.drive n) :=
      whenUnlocked_locked (s := s.drive n) h run
    refine ⟨?_, ?_, ?_, ?_, ?_⟩
    · exact addressedCommand_refuses hx (locked _)
    · exact addressedCommand_refuses hx (locked _)
    · exact addressedCommand_refuses hx (locked _)
    · exact addressedCommand_refuses hx (locked _)
    · exact (trimStep_addressed _ hx).trans (addressedCommand_refuses hx (locked _))

end Sys2Proof.Machine

namespace Sys2Proof.Machine

/-! ### The trims of a copy (R194, R195) -/

/-- Every trim of a copy moved, lane by lane. -/
def CalSet.trims (c : CalSet) (f : Lane → Int → Int) : CalSet :=
  { c with lane := Vector.ofFn fun m => { c.lane[m] with trim := f m c.lane[m].trim } }

/-- Both copies' trims moved, and the unstored-trim mark (R194 to R196). -/
def State.trimmed (s : State) (f : Lane → Int → Int) (mark : Bool) : State :=
  { s with
    cst := { s.cst with
      working := s.cst.working.trims f, staging := s.cst.staging.trims f, unstored := s.cst.unstored || mark } }

/-- The trim that TRIM_SET gives each lane (R194). -/
def setTrim (m : Lane) (v : Int) (k : Lane) (t : Int) : Int := if k = m then clampTrim v else t

/-- The trim that TRIM_STEP gives each lane (R195). -/
def stepTrim (mask : Byte) (d : Int) (m : Lane) (t : Int) : Int := if mask.getLsbD m.val then clampTrim (t + d) else t

theorem CalSet.withTrim_eq (c : CalSet) (m : Lane) (v : Int) : c.withTrim m (clampTrim v) = c.trims (setTrim m v) := by
  have hlane : upd c.lane m (fun l => { l with trim := clampTrim v }) =
      Vector.ofFn fun k : Lane => { c.lane[k] with trim := setTrim m v k c.lane[k].trim } := by
    apply Vector.ext
    intro k hk
    have hm : (⟨k, hk⟩ : Lane) = m ↔ m.val = k := by rw [Fin.ext_iff, eq_comm]
    simp only [upd_getElem, Vector.getElem_ofFn, setTrim, hm]
    split <;> rfl
  rw [CalSet.withTrim, hlane, CalSet.trims]

theorem CalSet.stepped_eq (c : CalSet) (mask : Byte) (d : Int) : c.stepped mask d = c.trims (stepTrim mask d) := by
  have hlane (m : Lane) : (if mask.getLsbD m.val then { c.lane[m] with trim := clampTrim (c.lane[m].trim + d) }
      else c.lane[m]) = { c.lane[m] with trim := stepTrim mask d m c.lane[m].trim } := by
    rw [stepTrim]
    split <;> rfl
  simp only [CalSet.stepped, CalSet.trims, hlane]

theorem toList_eq_ofFn {α : Type} {n : Nat} (v : Vector α n) : v.toList = List.ofFn fun i : Fin n => v[i] :=
  List.ext_getElem (by simp) (by simp)

/-- The trims of a copy, lane after lane. -/
theorem CalSet.trimBytes_eq (c : CalSet) : (c.lane.toList.flatMap fun v => signed2 v.trim) =
    signed2 c.lane[0].trim ++ signed2 c.lane[1].trim ++ signed2 c.lane[2].trim ++ signed2 c.lane[3].trim := by
  rw [toList_eq_ofFn]
  rfl

/-- The steps of TRIM_STEP by their codes (R195). -/
theorem trimStepOf_steps : ∀ e ∈ ([(0, 1), (1, 8), (2, 40), (3, -1), (4, -8), (5, -40)] : List (Byte × Int)),
    trimStepOf e.1.toNat = some e.2 := by
  decide

theorem trimStepOf_none {n : Nat} (h : 5 < n) : trimStepOf n = none := by
  obtain ⟨m, rfl⟩ := Nat.exists_eq_add_of_le' h
  rfl

/-! ### TRIM_SET and TRIM_STEP (R194 to R196) -/

section
variable {s : State} {p : List Byte} (hc : s.cst.closed = true) (hs : s.cst.store = none)
include hc hs

theorem trimSet_lane (m : Lane) {v : Int} (h : -32768 ≤ v) (h' : v ≤ 32767) : trimSet (byte m.val :: signed2 v) s =
    accept (byte m.val :: signed2 (clampTrim v)) (s.trimmed (setTrim m v) true) := by
  have hm : (byte m.val).toNat = m.val := byte_toNat_of_lt (by omega)
  have hv : s16 (byte m.val :: signed2 v) 1 = v := (s16_cons _ _ 0).trans (s16_signed2 h h')
  have hlen : ¬ (byte m.val :: signed2 v).length ≠ 3 := not_not.2 rfl
  rw [trimSet, whenUnlocked_open hc hs]
  simp only [u8_head, hm, index_val, if_neg hlen, hv, State.updCst, CalSet.withTrim_eq, State.trimmed, Bool.or_true]

theorem trimSet_bad (h : p.length ≠ 3 ∨ 3 < u8 p 0) : trimSet p s = refuse .badValue s := by
  rw [trimSet, whenUnlocked_open hc hs]
  by_cases hm : 3 < u8 p 0
  · simp only [index_of_le hm]
  · split
    · exact if_pos (h.resolve_right hm)
    · rfl

theorem trimStep_lanes {mask code : Byte} {d : Int} (hd : trimStepOf code.toNat = some d) (hm : mask.toNat < 16) :
    trimStep [mask, code] s =
      accept ((s.cst.working.trims (stepTrim mask d)).lane.toList.flatMap fun v => signed2 v.trim)
        (s.trimmed (stepTrim mask d) (mask ≠ 0)) := by
  have hmask : ¬ mask &&& 0xF0 ≠ 0 := not_not.2 ((highNibble_eq_zero_iff mask).2 (Nat.le_of_lt_succ hm))
  rw [trimStep, whenUnlocked_open hc hs]
  simp only [hd, if_neg hmask, State.updCst, CalSet.stepped_eq, State.trimmed]

theorem trimStep_bad (h : p.length ≠ 2 ∨ 16 ≤ u8 p 0 ∨ 5 < u8 p 1) : trimStep p s = refuse .badValue s := by
  refine (whenUnlocked_open hc hs _).trans ?_
  match p with
  | [mask, code] =>
    obtain hmask | hcode : 16 ≤ mask.toNat ∨ 5 < code.toNat := h.resolve_left (not_not.2 rfl)
    · have hhigh : mask &&& 0xF0 ≠ 0 := fun e => by have := (highNibble_eq_zero_iff mask).1 e; omega
      simp only [if_pos hhigh]
      split <;> rfl
    · simp only [trimStepOf_none hcode]
  | [] | [_] | _ :: _ :: _ :: _ => rfl

end

/-- Settles O53: each copy's trims move by the lane's own rule, and a refused broadcast leaves only its released MISO. -/
theorem trimsMoveInBothCopies : Obligations.TrimsMoveInBothCopies := by
  refine ⟨?_, fun s x p hx hlock => ?_⟩
  · intro s x hc hs lanes trimmed held stepped steps
    refine ⟨fun hx => ⟨fun m v h h' => ?_, fun mask code d hd hm => ?_, fun p => ⟨fun h => ?_, fun h => ?_⟩⟩,
      fun hx => ⟨fun mask code d hd hm => ?_, fun p h => ?_⟩⟩
    · exact addressedCommand_answers hx (trimSet_lane (s := s.drive _) hc hs m h h')
    · rw [trimStep_addressed _ hx]
      refine addressedCommand_answers hx ((trimStep_lanes (s := s.drive _) hc hs (trimStepOf_steps _ hd) hm).trans ?_)
      rw [CalSet.trimBytes_eq]
      rfl
    · exact addressedCommand_refuses hx (trimSet_bad (s := s.drive _) hc hs h)
    · rw [trimStep_addressed _ hx]
      exact addressedCommand_refuses hx (trimStep_bad (s := s.drive _) hc hs h)
    · rw [trimStep_broadcast _ hx, trimStep_lanes (s := s.release) hc hs (trimStepOf_steps _ hd) hm]
      rfl
    · rw [trimStep_broadcast _ hx, trimStep_bad (s := s.release) hc hs h]
      rfl
  · obtain ⟨st, hst⟩ := State.locked_of hlock
    have hrefused : trimStep p s.release = refuse st s.release := whenUnlocked_locked (s := s.release) hst _
    rw [trimStep_broadcast _ hx, hrefused]
    rfl

end Sys2Proof.Machine

namespace Sys2Proof.Machine

/-! ### The host's rows of `exec` (R202 to R204) -/

/-- All that a host command's row of `exec` can be: NOP_REPEAT, or its rule as a host command, one that a broadcast may carry only
if it is TRIM_STEP, SYNC or NOP, which changes nothing (R203). -/
theorem exec_of_frameParts {i : Instr} {x : Xfer} {code : Byte} {p : List Byte} (h : i.frameParts = some (x, code, p)) :
    i = .nopRepeat x ∨ ∃ mb run, (∀ s, exec i s = .next (hostCommand code mb x p run s)) ∧
      (mb = true → code = 0x35 ∨ code = 0x05 ∨ ∀ s, (run s).2 = s) := by
  cases i with
  | sample | normalEnd | longCut | standingEnd | settlingEnd | autoZeroStep | pinnedTimerExpiry | standingTimerExpiry
  | noiseWindowEnd | pulseArrival | loneExpiry | entryExpiry | closeDeadlineExpiry | slotBoundary | periodicTimerExpiry
  | holdTimerExpiry | holdoffExpiry | storeCompletion | switchPositionTaken | deviceReset | loadCompletion | unknownCmd
  | calswInputChange => cases h
  | nopRepeat => cases h; exact .inl rfl
  | nop y q =>
    cases h
    refine .inr ⟨true, _, fun _ => rfl, fun _ => .inr (.inr fun s => ?_)⟩
    exact whenEmpty_keeps (I := (· = s)) rfl rfl
  | trimStep => cases h; exact .inr ⟨true, _, fun _ => rfl, fun _ => .inl rfl⟩
  | sync => cases h; exact .inr ⟨true, _, fun _ => rfl, fun _ => .inr (.inl rfl)⟩
  | status | paramRead | tOn | tOff | nb | noiseLim | azl | azTol | azStep | enable | wLr | straddleEn | spdtol | maxsp
  | maxclose | grp | rdt | probeMap | probeEn | tempHold | hotTo | hotTh | hotMode | coldTo | coldTh | coldMode | slotLen
  | slotRule | testLimit | testPeriod | missLim | holdoff | attnMask | counterRead | syncRead | trafficReset | recList
  | recHead | recAxles | recHold | recRelease | recTag | recClose | recRetire | recReclass | recMerge | recSplit
  | classWrite | classClear | classRead | classSwap | stripRemove | stripRestore | stripTest | stripStatus | tempStatus
  | calWrite | calLoad | calRead | calCommit | trimSet =>
    cases h
    exact .inr ⟨false, _, fun _ => rfl, nofun⟩

/-- An event that is no transaction, and is no UNKNOWN_CMD, always has an effect. -/
theorem exec_of_event {i : Instr} (h : i.frameParts = none) (hu : ∀ bytes, i ≠ .unknownCmd bytes) (s : State) :
    ∃ t, exec i s = .next t := by
  cases i with
  | unknownCmd bytes => exact absurd rfl (hu bytes)
  | sample | normalEnd | longCut | standingEnd | settlingEnd | autoZeroStep | pinnedTimerExpiry | standingTimerExpiry
  | noiseWindowEnd | pulseArrival | loneExpiry | entryExpiry | closeDeadlineExpiry | slotBoundary | periodicTimerExpiry
  | holdTimerExpiry | holdoffExpiry | storeCompletion | switchPositionTaken | deviceReset | loadCompletion
  | calswInputChange => exact ⟨_, rfl⟩
  | _ => cases h

theorem execUnknownCmd_sound {bytes : List Byte} {i : Instr} (h : readFrame bytes = .sound i) (s : State) :
    exec (.unknownCmd bytes) s = .fault .soundFrame := by
  show execUnknownCmd bytes s = _
  rw [execUnknownCmd, h]

theorem execUnknownCmd_bad {bytes : List Byte} {e : FrameError} {echo : Byte} (h : readFrame bytes = .bad e echo) (s : State) :
    exec (.unknownCmd bytes) s = .next (s.badFrame bytes (FrameError.status e) echo) := by
  show execUnknownCmd bytes s = _
  rw [execUnknownCmd, h]

/-- A well-formed UNKNOWN_CMD carries bytes that fail a frame check (R202). -/
theorem readFrame_of_wf {bytes : List Byte} (h : (Instr.unknownCmd bytes).wf = true) :
    ∃ e echo, readFrame bytes = .bad e echo := by
  obtain ⟨-, hbad⟩ := Bool.and_eq_true_iff.1 h
  cases hr : readFrame bytes with
  | sound i => simp [hr] at hbad
  | bad e echo => exact ⟨e, echo, rfl⟩

/-- Settles O2: a host command is its rule's reply, an event its own effect, and UNKNOWN_CMD stops exactly on a sound frame. -/
theorem everyCommandAnswersANextState : Obligations.EveryCommandAnswersANextState := by
  refine ⟨fun i s hwf => ?_, fun bytes i s h => execUnknownCmd_sound h s⟩
  cases hparts : i.frameParts with
  | some parts =>
    obtain ⟨x, code, p⟩ := parts
    obtain rfl | ⟨mb, run, hrun, -⟩ := exec_of_frameParts hparts
    · exact ⟨_, rfl⟩
    · exact ⟨_, hrun s⟩
  | none =>
    by_cases hu : ∃ bytes, i = .unknownCmd bytes
    · obtain ⟨bytes, rfl⟩ := hu
      obtain ⟨e, echo, hbad⟩ := readFrame_of_wf hwf
      exact ⟨_, execUnknownCmd_bad hbad s⟩
    · exact exec_of_event hparts (not_exists.1 hu) s


/-! ### Frames written and read (R200 to R202, R204, R207) -/

/-- The code and payload of every well-formed host command name it again (R204, R207). -/
theorem commandOf_frameParts : ∀ i : Instr, Laws.Named.Statement i :=
  open Laws in
  @Instr.rec Named.Statement Named.sample Named.normalEnd Named.longCut Named.standingEnd Named.settlingEnd
    Named.autoZeroStep Named.pinnedTimerExpiry Named.standingTimerExpiry Named.noiseWindowEnd Named.pulseArrival
    Named.loneExpiry Named.entryExpiry Named.closeDeadlineExpiry Named.slotBoundary Named.periodicTimerExpiry
    Named.holdTimerExpiry Named.holdoffExpiry Named.storeCompletion Named.switchPositionTaken Named.deviceReset
    Named.loadCompletion Named.unknownCmd Named.nop Named.nopRepeat Named.status Named.paramRead Named.tOn Named.tOff
    Named.nb Named.noiseLim Named.azl Named.azTol Named.azStep Named.enable Named.wLr Named.straddleEn Named.spdtol
    Named.maxsp Named.maxclose Named.grp Named.rdt Named.probeMap Named.probeEn Named.tempHold Named.hotTo Named.hotTh
    Named.hotMode Named.coldTo Named.coldTh Named.coldMode Named.slotLen Named.slotRule Named.testLimit Named.testPeriod
    Named.missLim Named.holdoff Named.attnMask Named.counterRead Named.sync Named.syncRead Named.trafficReset
    Named.recList Named.recHead Named.recAxles Named.recHold Named.recRelease Named.recTag Named.recClose
    Named.recRetire Named.recReclass Named.recMerge Named.recSplit Named.classWrite Named.classClear Named.classRead
    Named.classSwap Named.stripRemove Named.stripRestore Named.stripTest Named.stripStatus Named.tempStatus
    Named.calWrite Named.calLoad Named.calRead Named.calCommit Named.trimSet Named.trimStep Named.calswInputChange

/-- A frame with its own CRC-8 passes the checks of R202: the payload and the filler stand where they were written. -/
theorem readFrame_frameBytes {x : Xfer} {code : Byte} {p : List Byte} {i : Instr} (hp : p.length ≤ 255)
    (hc : commandOf x code p = some i) : readFrame (frameBytes x code p) = .sound i := by
  have hlen : (BitVec.ofNat 8 p.length).toNat = p.length := byte_toNat_of_lt (Nat.lt_succ_of_le hp)
  have htake (c : Byte) : (p ++ c :: x.filler).take p.length = p := List.take_left
  have hcrc (c : Byte) : (p ++ c :: x.filler).getD p.length 0 = c := by simp
  have hfiller (c : Byte) : (p ++ c :: x.filler).drop (p.length + 1) = x.filler := by simp
  have hlong (c : Byte) : ¬ (p ++ c :: x.filler).length < p.length + 1 := by simp
  simp only [frameBytes, List.cons_append, readFrame, hlen, htake, hcrc, hfiller, if_neg (hlong _), ne_eq, not_true_eq_false,
    if_false, hc]

theorem payload_le_of_wf {i : Instr} {x : Xfer} {code : Byte} {p : List Byte} (hwf : i.wf = true)
    (h : i.frameParts = some (x, code, p)) : p.length ≤ 255 := by
  obtain ⟨hfits, -⟩ := Bool.and_eq_true_iff.1 hwf
  simpa only [payloadFits, h, decide_eq_true_eq] using hfits

/-- A command's transaction is UNKNOWN_CMD's own bytes, or the frame of its parts (R200). -/
theorem encodeFrame_cases {i : Instr} {bytes : List Byte} (h : encodeFrame i = some bytes) :
    i = .unknownCmd bytes ∨ ∃ x code p, i.frameParts = some (x, code, p) ∧ bytes = frameBytes x code p := by
  unfold encodeFrame at h
  split at h
  · exact .inl (congrArg Instr.unknownCmd (Option.some.inj h))
  · obtain ⟨⟨x, code, p⟩, hparts, rfl⟩ := Option.map_eq_some_iff.1 h
    exact .inr ⟨x, code, p, hparts, rfl⟩

/-- Settles O3: a frame is read by its own code and payload, which name the command; UNKNOWN_CMD's bytes fail a check. -/
theorem transactionBytesReadBack : Obligations.TransactionBytesReadBack := by
  intro i bytes hwf h
  obtain rfl | ⟨x, code, p, hparts, rfl⟩ := encodeFrame_cases h
  · obtain ⟨e, echo, hbad⟩ := readFrame_of_wf hwf
    simp only [decodeFrame, hbad]
  · have hread := readFrame_frameBytes (payload_le_of_wf hwf hparts) (commandOf_frameParts i hwf x code p hparts)
    simp only [decodeFrame, hread]

/-! ### Frames that fail a check (R202, R207) -/

/-- A code outside R204's table names no command. -/
theorem commandOf_unknown {x : Xfer} {code : Byte} {p : List Byte} (h : code ∉ knownCodes) : commandOf x code p = none := by
  unfold commandOf
  split
  case h_35 => rfl
  all_goals exact absurd (by decide) h

/-- A PARAM_WRITE whose payload begins with no identifier of R207's table names no command. -/
theorem commandOf_unknownParam {x : Xfer} {p : List Byte} (h : p.head?.bind Param.ofId = none) :
    commandOf x 0x02 p = none := by
  cases p with
  | nil => rfl
  | cons ident rest => exact congrArg (Option.map fun q => q.command x rest) h

section
variable {addr code len : Byte} {body : List Byte}

theorem readFrame_short (h : body.length < len.toNat + 1) :
    readFrame (addr :: code :: len :: body) = .bad .length code := if_pos h

section
variable (hlen : ¬ body.length < len.toNat + 1)
include hlen

theorem readFrame_wrongCrc (h : crc8 (addr :: code :: len :: body.take len.toNat) ≠ body.getD len.toNat 0) :
    readFrame (addr :: code :: len :: body) = .bad .crc code := (if_neg hlen).trans (if_pos h)

theorem readFrame_unnamed (hcrc : ¬ crc8 (addr :: code :: len :: body.take len.toNat) ≠ body.getD len.toNat 0)
    (h : commandOf ⟨addr, body.drop (len.toNat + 1)⟩ code (body.take len.toNat) = none) :
    readFrame (addr :: code :: len :: body) = .bad (if code = paramWriteCode then .param else .code) code :=
  (if_neg hlen).trans ((if_neg hcrc).trans (by rw [h]))

end

end

/-- What the rules say is wrong with a transaction is what the frame checks find. -/
theorem readFrame_of_fault {bytes : List Byte} {st : Status} {echo : Byte} (h : frameFault bytes st echo) :
    ∃ e, readFrame bytes = .bad e echo ∧ FrameError.status e = st := by
  match bytes with
  | [] => exact h.elim
  | [_] | [_, _] => obtain ⟨rfl, rfl⟩ := h; exact ⟨.length, rfl, rfl⟩
  | addr :: code :: len :: body =>
    obtain ⟨rfl, h⟩ := h
    split at h
    next hlen => subst h; exact ⟨.length, readFrame_short hlen, rfl⟩
    next hlen =>
      split at h
      next hcrc => subst h; exact ⟨.crc, readFrame_wrongCrc hlen hcrc, rfl⟩
      next hcrc =>
        split at h
        next hcode =>
          subst h
          have hwrite : echo ≠ paramWriteCode := fun e => hcode (e ▸ by decide)
          exact ⟨.code, (readFrame_unnamed hlen hcrc (commandOf_unknown hcode)).trans (by rw [if_neg hwrite]), rfl⟩
        next =>
          obtain ⟨rfl, hident, rfl⟩ := h
          exact ⟨.param, readFrame_unnamed hlen hcrc (commandOf_unknownParam hident), rfl⟩

section
variable {s : State} {bytes : List Byte} {addr : Byte} (hhead : bytes.head? = some addr) (st : Status) (echo : Byte)
include hhead

/-- The addressed node clocks out its response and takes the error's for it (R202). -/
theorem State.badFrame_addressed (h : s.taker addr = .addressed) :
    s.badFrame bytes st echo = s.answered s bytes.length echo st [] := by
  obtain ⟨rest, rfl⟩ := List.head?_eq_some_iff.1 hhead
  simp only [State.badFrame, h]
  rfl

theorem State.badFrame_untaken (h : s.taker addr ≠ .addressed) : s.badFrame bytes st echo = s.release := by
  obtain ⟨rest, rfl⟩ := List.head?_eq_some_iff.1 hhead
  cases ht : s.taker addr with
  | addressed => exact absurd ht h
  | broadcast | nobody => simp only [State.badFrame, ht]

end

/-- Settles O4: the checks of the link find the fault of R202's table, whose error the addressed node answers. -/
theorem unsoundFrameEarnsItsError : Obligations.UnsoundFrameEarnsItsError := by
  intro s bytes addr st echo hhead ht hfault
  obtain ⟨e, hread, rfl⟩ := readFrame_of_fault hfault
  rw [execUnknownCmd_bad hread, State.badFrame_addressed hhead _ _ ht]

/-! ### Transactions that nobody takes (R199, R203) -/

/-- A host command that is not taken leaves the part as it was. -/
theorem hostCommand_untaken {code : Byte} {mb : Bool} {x : Xfer} {p : List Byte} {run : State → Reply × State} {s : State}
    (hrun : mb = true → code = 0x35 ∨ code = 0x05 ∨ ∀ s, (run s).2 = s)
    (h : s.taker x.addr = .nobody ∨ (s.taker x.addr = .broadcast ∧ code ≠ 0x35 ∧ code ≠ 0x05)) :
    hostCommand code mb x p run s = s.release := by
  obtain ht | ⟨ht, hstep, hsync⟩ := h
  · exact hostCommand_nobody _ _ _ _ _ _ ht
  · rw [hostCommand_broadcast _ _ _ _ _ _ ht]
    split
    next hmb => exact ((hrun hmb).resolve_left hstep).resolve_left hsync _
    next => rfl

theorem nopRepeat_untaken {x : Xfer} {s : State} (h : s.taker x.addr ≠ .addressed) :
    exec (.nopRepeat x) s = .next s.release := by
  show execNopRepeat x s = _
  cases ht : s.taker x.addr with
  | addressed => exact absurd ht h
  | broadcast | nobody => simp only [execNopRepeat, ht]

/-- Settles O5: of the commands that a broadcast may carry, only NOP is left, and it changes nothing. -/
theorem untakenTransactionsChangeNothing : Obligations.UntakenTransactionsChangeNothing := by
  refine ⟨fun i x code p s hparts ht => ?_, fun bytes addr e echo s hhead hread ht => ?_⟩
  · obtain rfl | ⟨mb, run, hexec, hrun⟩ := exec_of_frameParts hparts
    · refine nopRepeat_untaken fun h => ?_
      simp [h] at ht
    · rw [hexec, hostCommand_untaken hrun ht]
      rfl
  · rw [execUnknownCmd_bad hread, State.badFrame_untaken hhead _ _ ht]
    rfl

end Sys2Proof.Machine

namespace Sys2Proof.Machine

/-! ### Who takes a transaction (R199, R203) -/

/-- An address byte with bits 2 to 6 clear is a node number or a broadcast (R199). -/
theorem addressBits_eq_zero_iff (b : Byte) : b &&& 0x7C = 0 ↔ b.toNat < 4 ∨ (128 ≤ b.toNat ∧ b.toNat < 132) := by
  revert b
  decide

/-- The taker of a transaction by the number in its address byte (R199). -/
theorem taker_loaded {s : State} (h : s.loaded = true) (addr : Byte) : s.taker addr =
    if addr.toNat < 4 ∨ (128 ≤ addr.toNat ∧ addr.toNat < 132) then
      if 128 ≤ addr.toNat then .broadcast else if addr.toNat % 4 = s.cpt.node.toNat then .addressed else .nobody
    else .nobody := by
  have hnode : addr.setWidth 2 = s.cpt.node ↔ addr.toNat % 4 = s.cpt.node.toNat := by
    rw [← BitVec.toNat_inj, BitVec.toNat_setWidth]
  simp only [State.taker, h, Bool.not_true, Bool.false_or, decide_eq_true_eq, BitVec.msb_eq_decide, hnode, ne_eq,
    addressBits_eq_zero_iff, ite_not]

theorem taker_addressed_iff {s : State} (h : s.loaded = true) (addr : Byte) :
    s.taker addr = .addressed ↔ addr.toNat < 4 ∧ addr.toNat = s.cpt.node.toNat := by
  rw [taker_loaded h]
  split_ifs with hknown hbroadcast hnode
  · rw [false_iff]; omega
  · exact iff_of_true rfl (by omega)
  · rw [false_iff]; omega
  · rw [false_iff]; omega

theorem taker_broadcast_iff {s : State} (h : s.loaded = true) (addr : Byte) :
    s.taker addr = .broadcast ↔ 128 ≤ addr.toNat ∧ addr.toNat < 132 := by
  rw [taker_loaded h]
  split_ifs with hknown hbroadcast hnode
  · exact iff_of_true rfl (by omega)
  · rw [false_iff]; omega
  · rw [false_iff]; omega
  · rw [false_iff]; omega

theorem taker_unloaded {s : State} (h : s.loaded = false) (addr : Byte) : s.taker addr = .nobody := by
  simp only [State.taker, h, Bool.not_false, Bool.true_or, if_true]

/-! ### The bytes of a response (R200, R201) -/

theorem crc8Shift_eq (c : Byte) : crc8Shift c = if c.getLsbD 7 then (c <<< 1) ^^^ 0x07 else c <<< 1 := by
  rw [crc8Shift, BitVec.msb_eq_getLsbD_last]

theorem crc8_append (bytes : List Byte) (b : Byte) : crc8 (bytes ++ [b]) = crc8Byte (crc8 bytes) b := by
  rw [crc8, List.foldl_append]
  rfl

theorem Response.driven_cut {r : Response} {n : Nat} (h : n ≤ r.frame.length) : r.driven (n + 1) = r.frame.take n := by
  rw [Response.driven, Nat.add_sub_cancel, List.take_append_of_le_length h]

theorem Response.driven_filled {r : Response} {n : Nat} (h : r.frame.length ≤ n) :
    r.driven (n + 1) = r.frame ++ List.replicate (n - r.frame.length) 0xFF := by
  rw [Response.driven, Nat.add_sub_cancel, List.take_append, List.take_of_length_le h, List.take_replicate]
  congr 2
  omega

/-- Settles O6: the address bits decide, the CRC-8 is a left fold of eight shifts, and the driven bytes are a cut of the frame with
FFh behind it. -/
theorem addressByteAndResponseBytes : Obligations.AddressByteAndResponseBytes := by
  refine ⟨fun s addr h => ⟨taker_addressed_iff h addr, taker_broadcast_iff h addr⟩, fun s addr h => taker_unloaded h addr,
    ⟨rfl, fun bytes b => ?_⟩, fun r n _ => ⟨Response.driven_cut, Response.driven_filled⟩⟩
  intro shift
  have hshift : crc8Shift = shift := funext crc8Shift_eq
  rw [crc8_append, crc8Byte, hshift]
  rfl

/-! ### NOP (R202) -/

section
variable {s : State} {x : Xfer} (h : s.taker x.addr = .addressed)
include h

/-- A command that may be broadcast is, to the addressed node, a command like any other. -/
theorem hostCommand_next_addressed (code : Byte) (mb : Bool) (p : List Byte) (run : List Byte → State → Reply × State) :
    (.next (hostCommand code mb x p (run p) s) : Host.Outcome State Fault Refusal) = addressedCommand code x p run s :=
  congrArg Host.Outcome.next
    ((hostCommand_addressed _ _ _ _ _ _ h).trans (hostCommand_addressed _ _ _ _ _ _ h).symm)

theorem execNop_addressed (p : List Byte) : exec (.nop x p) s = addressedCommand 0x00 x p nop s :=
  hostCommand_next_addressed h 0x00 true p nop

theorem execSync_addressed (p : List Byte) : exec (.sync x p) s = addressedCommand 0x05 x p sync s :=
  hostCommand_next_addressed h 0x05 true p sync

theorem execNopRepeat_addressed : exec (.nopRepeat x) s = .next (s.drive (xferBytes x [0x01])) := by
  show execNopRepeat x s = _
  simp only [execNopRepeat, h]
  rfl

end

/-- Settles O7: an empty payload is accepted, a repeat drives the kept response, any other payload is refused. -/
theorem nopAnswersOrRepeats : Obligations.NopAnswersOrRepeats := by
  intro s x h
  refine ⟨?_, execNopRepeat_addressed h, fun p hp _ => ?_⟩
  · rw [execNop_addressed h]
    exact addressedCommand_answers h (whenEmpty_empty _)
  · rw [execNop_addressed h]
    exact addressedCommand_refuses h (whenEmpty_bad hp _)

/-! ### STATUS, SYNC and SYNC_READ (R206, R210) -/

theorem syncRead_empty (s : State) : syncRead [] s =
    accept (s.cpt.syncLatch.elim [0, 0, 0, 0, 0] fun t => 1 :: bytes4 t.toNat) s := by
  rw [syncRead, whenEmpty_empty]
  cases s.cpt.syncLatch <;> rfl

/-- Settles O9: the three are commands with an empty payload; SYNC acts on a broadcast too, without a response. -/
theorem statusAndSyncAnswer : Obligations.StatusAndSyncAnswer := by
  refine ⟨fun s x h => ⟨?_, fun p hp => ?_⟩, fun s x => ⟨fun h => ⟨?_, ?_⟩, fun h => ?_⟩⟩
  · exact addressedCommand_answers h (whenEmpty_empty _)
  · exact addressedCommand_refuses h (whenEmpty_bad hp _)
  · rw [execSync_addressed h]
    exact addressedCommand_answers h (whenEmpty_empty _)
  · refine addressedCommand_answers h ((syncRead_empty _).trans ?_)
    rw [State.drive_cpt]
    cases s.cpt.syncLatch <;> rfl
  · exact congrArg Host.Outcome.next (hostCommand_broadcast _ _ _ _ _ _ h)

/-! ### PARAM_READ (R208) -/

theorem Param.ofId_id (p : Param) : Param.ofId p.id = some p := by
  cases p with
  | slotLen n | slotRule n => fin_cases n <;> rfl
  | _ => rfl

theorem paramRead_named {p : Param} {k : Nat} (hk : k < (paramScope p).size) (s : State) :
    paramRead [p.id, byte k] s = accept (valueOf p k (s.paramValue p k)) s := by
  have hbyte : (byte k).toNat = k := byte_toNat_of_lt (by have := Scope.size_le (paramScope p); omega)
  simp only [paramRead, Param.ofId_id, hbyte, if_pos hk, valueOf]

theorem paramRead_bad {q : List Byte}
    (h : q.length ≠ 2 ∨ ∀ p, Param.ofId (q.getD 0 0) = some p → (paramScope p).size ≤ (q.getD 1 0).toNat) (s : State) :
    paramRead q s = refuse .badValue s := by
  match q with
  | [ident, k] =>
    have hscope : ∀ p, Param.ofId ident = some p → (paramScope p).size ≤ k.toNat := h.resolve_left (not_not.2 rfl)
    cases hp : Param.ofId ident with
    | none => simp only [paramRead, hp]
    | some p => simp only [paramRead, hp, if_neg (Nat.not_lt.2 (hscope p hp))]
  | [] | [_] | _ :: _ :: _ :: _ => rfl

/-! ### COUNTER_READ (R209) -/

theorem counterRead_strip (i : Strip) (s : State) : counterRead [0, byte i.val] s =
    accept ([0, byte i.val] ++ (s.stripCounters i).flatMap bytes2) (s.clearStripCounters i) := by
  have hi : (byte i.val).toNat = i.val := byte_toNat_of_lt (by omega)
  have hgroup : (0 : Byte).toNat = 0 := rfl
  simp only [counterRead, hi, hgroup, index_val]

theorem counterRead_lane (n : Lane) (s : State) : counterRead [1, byte n.val] s =
    accept ([1, byte n.val] ++ (s.laneCounters n).flatMap bytes2) (s.clearLaneCounters n) := by
  have hn : (byte n.val).toNat = n.val := byte_toNat_of_lt (by omega)
  have hgroup : (1 : Byte).toNat = 1 := rfl
  simp only [counterRead, hn, hgroup, index_val]

/-- Settles O10: a read names its parameter by the identifier that R207 gives it, and a strip's or a lane's counters in R209's
order are cleared as they are sent. -/
theorem paramAndCounterReadsAnswer : Obligations.ParamAndCounterReadsAnswer := by
  refine ⟨fun s x p k h hk => ?_, fun s x q h hbad => ?_, fun s x h => ⟨fun i => ?_, fun n => ?_⟩⟩
  · exact addressedCommand_answers (t := s) h (paramRead_named hk _)
  · exact addressedCommand_refuses h (paramRead_bad hbad _)
  · exact addressedCommand_answers h (counterRead_strip i _)
  · exact addressedCommand_answers h (counterRead_lane n _)

/-! ### The state after device reset (R212) -/

/-- Settles O60: the reset keeps each of the five conditions, whatever the straps and the memory, and the reset state is one. -/
theorem resetMeetsTheInvariants : Obligations.ResetMeetsTheInvariants :=
  ⟨.atReset _ _ _ _, .atReset _ _ _ _, .atReset _ _ _ _, .atReset _ _ _ _, .atReset _ _ _ _⟩

end Sys2Proof.Machine

namespace Sys2Proof.Machine

/-! ### A step (log 2) -/

/-- What the part does of itself when an event is due. -/
theorem State.idle_of_due {s : State} {c : Instr} (hdue : s.dueEvent = some c) : s.idle = { s with pending := [c] } := by
  simp only [State.idle, hdue]

/-- What the part does of itself when no event is due (R210). -/
theorem State.idle_of_none_due {s : State} (hdue : s.dueEvent = none) : s.idle = { s with siteTime := s.siteTime + 1 } := by
  simp only [State.idle, hdue]

theorem step_of_pending {s : State} {c : Instr} {rest : List Instr} (hqueue : s.pending = c :: rest) :
    step s = exec c { s with pending := rest } := by
  simp only [step, hqueue]

theorem step_of_no_pending {s : State} (hqueue : s.pending = []) : step s = .next s.idle := by
  simp only [step, hqueue]

/-- Settles O1: the queue decides between a command and the part itself, and the first due event what the part does of itself. -/
theorem stepRunsTheFrontCommand : Obligations.StepRunsTheFrontCommand := by
  refine ⟨fun c rest s hqueue => step_of_pending hqueue, fun s c hqueue hdue => ?_, fun s hqueue hdue => ?_⟩
  · rw [step_of_no_pending hqueue, State.idle_of_due hdue]
  · rw [step_of_no_pending hqueue, State.idle_of_none_due hdue]

end Sys2Proof.Machine
